-- ==== Sys2Proof/Word.lean ====
section
/-! DEFINITION. The words of the Span and of the engine's counts (spec/01, section 1.8; spec/00, section 4). -/

namespace Sys2Proof

/-- A byte of a frame body, of the setup block or of a message's characters. -/
abbrev Byte := BitVec 8

/-- A window serial: a 32-bit count, distances taken modulo 2^32 (R85). -/
abbrev Serial := BitVec 32

/-- A part mask: bit p − 1 stands for part p (section 1.8). -/
abbrev PartMask := BitVec 8

/-- A zone set: bit z stands for zone z (section 1.8). -/
abbrev ZoneSet := BitVec 16

/-- A table of the store held sparsely: keys strictly rising, each with its row. What an unlisted key reads as is said
where the table is used. -/
abbrev Table (α : Type) := List (Nat × α)

end Sys2Proof
end

