-- ==== Sys2Proof/Syntax.lean ====
section
/-! DEFINITION. The commands of the engine: one constructor for each row of spec/opcode_table.json, with the row's
operands. Fields of a frame have the widths the Span gives them, so a value outside a field's stated range can be
written, and R11 drops it. -/

namespace Sys2Proof

/-- What a step meets from outside besides its own operands. `moment` is the time of the engine's time base, in ms, at
which the step happens (R82; log 4). `trackerFirst` says which of the two blocks takes a window-begun event first (R87:
either order is allowed; log 8). -/
structure Env where
  moment : Nat
  trackerFirst : Bool
deriving DecidableEq, Repr

/-- The header of a frame heard (R2): class, turn, source and destination. The kind is the constructor's. -/
structure Header where
  cls : BitVec 3
  turn : BitVec 4
  src : BitVec 5
  dst : BitVec 5
deriving DecidableEq, Repr

/-- A frame as it stands on the Span (R2): every field of the header, the body bytes received, the check received, and
whether the data line went idle before the declared body and the check had been received (R7). -/
structure WireFrame where
  head : Header
  kind : BitVec 7
  len : BitVec 16
  body : List Byte
  check : BitVec 16
  cut : Bool
deriving DecidableEq, Repr

/-- What the setup line gives when the setup block is read (R173, R186). -/
inductive SetupLine where
  /-- The memory acknowledges its device address; each byte is answered or not (an unanswered byte reads as 255). -/
  | answers (bytes : List (Option Byte))
  /-- The memory does not acknowledge its device address. -/
  | silent
  /-- The data line is held low. -/
  | heldLow
deriving DecidableEq, Repr

/-- MARK body (section 1.8). -/
structure MarkBody where
  lap : BitVec 16
  window : Byte
  caps : List (BitVec 16)
  zones : ZoneSet
deriving DecidableEq, Repr

/-- One entry of a REPORT (section 1.8). -/
structure ReportEntry where
  station : Byte
  number : Byte
  accepted : Byte
deriving DecidableEq, Repr

/-- REPORT body; the entry count is the length of the list. -/
structure ReportBody where
  lap : BitVec 16
  window : Byte
  entries : List ReportEntry
deriving DecidableEq, Repr

/-- One item of a CLAIM frame (section 1.8). -/
structure ClaimItem where
  tag : BitVec 24
  seq : Byte
  cost : Byte
  zones : ZoneSet
  parts : PartMask
deriving DecidableEq, Repr

/-- CLAIM body; the item count is the length of the list. -/
structure ClaimBody where
  lap : BitVec 16
  window : Byte
  number : Byte
  items : List ClaimItem
deriving DecidableEq, Repr

/-- HEARD body (section 1.8). -/
structure HeardBody where
  tag : BitVec 24
  seq : Byte
  held : PartMask
  zone : Byte
  grade : Byte
deriving DecidableEq, Repr

/-- DEPOSIT body; the character count as sent is the length of the list. -/
structure DepositBody where
  tag : BitVec 16
  number : BitVec 24
  priority : Byte
  kind : Byte
  chars : List Byte
deriving DecidableEq, Repr

/-- RECALL body (section 3.7). -/
structure RecallBody where
  number : BitVec 24
  seq : Byte
deriving DecidableEq, Repr

/-- LOAD body (section 2.4), less the operation byte, which the row or an operand gives. -/
structure LoadBody where
  tag : BitVec 16
  number : BitVec 24
  state : Byte
  airTag : BitVec 24
  home : Byte
  pager : Byte
  twoWay : Byte
  maxParts : Byte
  repeatCount : Byte
  plan : Byte
  tariffClass : Byte
  pendingLimit : Byte
  opening : BitVec 24
  threshold : BitVec 24
deriving DecidableEq, Repr

/-- TARIFF STAGE body (section 8.1). -/
structure TariffBody where
  cls : Byte
  base : BitVec 16
  rate : BitVec 16
  percent : Byte
deriving DecidableEq, Repr

/-- CREDIT body (section 8.4). -/
structure CreditBody where
  number : BitVec 24
  amount : BitVec 24
  tag : BitVec 16
deriving DecidableEq, Repr

/-- QUERY body (section 10.6), less the kind, and less the clear flag where the row gives it. -/
structure QueryBody where
  tag : BitVec 16
  clear : Byte
  arg : BitVec 32
deriving DecidableEq, Repr

/-- The commands: one constructor for each row of spec/opcode_table.json. -/
inductive Instr where
  /-- RESET_ASSERTED: RESET is low for the given number of µs (R176, R187). -/
  | resetAsserted (lowMicros : Nat)
  /-- RESET_RELEASED (R176). -/
  | resetReleased
  /-- SETUP_READ_COMPLETE: what the setup line gave, and the five straps, STRAP4 the most significant (R173, R174). -/
  | setupReadComplete (e : Env) (line : SetupLine) (straps : BitVec 5)
  /-- INIT_SWEEP_COMPLETE (R176). -/
  | initSweepComplete
  /-- RECOVERY_SWEEP_STEP: the sweep treats its next message (R178). -/
  | recoverySweepStep (e : Env)
  /-- RECOVERY_SWEEP_COMPLETE (R179). -/
  | recoverySweepComplete (e : Env)
  /-- FRAME_BAD: a frame whose check fails or which is cut short (R7). -/
  | frameBad (e : Env) (f : WireFrame)
  /-- HEADER_MALFORMED (R8). -/
  | headerMalformed (e : Env) (f : WireFrame)
  /-- FRAME_NOT_TAKEN (R9). -/
  | frameNotTaken (e : Env) (f : WireFrame)
  /-- IDLE_GAP_END: the lowest 12-bit contention key any other station drives at this gap, if any (R1, R4, R15). -/
  | idleGapEnd (e : Env) (rival : Option (BitVec 12))
  /-- SEND_FAULT (R6). -/
  | sendFault (e : Env)
  /-- NOTICE_ACK_SLOT: whether the slot was dominant (R14, R17). -/
  | noticeAckSlot (e : Env) (dominant : Bool)
  /-- RECORD_ACK_SLOT: whether the slot was dominant (R14, R163). -/
  | recordAckSlot (e : Env) (dominant : Bool)
  /-- RESEND_GAP_EXPIRY (R163). -/
  | resendGapExpiry
  /-- STALL_TIMER_EXPIRY (R164). -/
  | stallTimerExpiry
  /-- FAULT_TIMER_EXPIRY (R181). -/
  | faultTimerExpiry
  /-- MARK (R82, R88 to R91). -/
  | mark (h : Header) (e : Env) (b : MarkBody)
  /-- COAST_EXPIRY (R92, R93). -/
  | coastExpiry (e : Env)
  /-- COMPOSITION_STEP (R104). -/
  | compositionStep (e : Env)
  /-- COMPOSITION_END (R109). -/
  | compositionEnd (e : Env)
  /-- CLAIM_REPORTED_SENT (R113). -/
  | claimReportedSent (e : Env)
  /-- CLAIM (R102). -/
  | claim (h : Header) (e : Env) (b : ClaimBody)
  /-- REPORT (R115). -/
  | report (h : Header) (e : Env) (b : ReportBody)
  /-- HEARD (R129). -/
  | heard (h : Header) (e : Env) (b : HeardBody)
  /-- DEPOSIT (R39 to R49). -/
  | deposit (h : Header) (e : Env) (b : DepositBody)
  /-- DELAYED_DEPOSIT_RUN (R50). -/
  | delayedDepositRun (e : Env)
  /-- DISCARD_TIMER_EXPIRY: of the entry of this origin and deposit tag (R51). -/
  | discardTimerExpiry (origin : BitVec 5) (tag : BitVec 16)
  /-- RECALL (R54). -/
  | recall (h : Header) (e : Env) (b : RecallBody)
  /-- WAIT_LIST_SERVE (R77). -/
  | waitListServe (e : Env)
  /-- LOAD_SET: a LOAD with operation 0 (R30 to R34). -/
  | loadSet (h : Header) (e : Env) (b : LoadBody)
  /-- LOAD_VACATE: a LOAD with operation 1 (R35). -/
  | loadVacate (h : Header) (e : Env) (b : LoadBody)
  /-- TARIFF_STAGE (R143, R144). -/
  | tariffStage (h : Header) (e : Env) (b : TariffBody)
  /-- CREDIT (R153). -/
  | credit (h : Header) (e : Env) (b : CreditBody)
  /-- PERIOD_CLOSE (R166). -/
  | periodClose (h : Header) (e : Env) (period : Byte)
  /-- PERIOD_SWEEP_STEP (R168). -/
  | periodSweepStep (e : Env)
  /-- PERIOD_SWEEP_COMPLETE (R169). -/
  | periodSweepComplete (e : Env)
  /-- QUERY_STATS: a QUERY of kind 0 with clear flag 0 (R184). -/
  | queryStats (h : Header) (e : Env) (tag : BitVec 16) (arg : BitVec 32)
  /-- QUERY_STATS_CLEAR: a QUERY of kind 0 with clear flag 1 (R183). -/
  | queryStatsClear (h : Header) (e : Env) (tag : BitVec 16) (arg : BitVec 32)
  /-- QUERY_SUBSCRIBER: a QUERY of kind 1 (R184). -/
  | querySubscriber (h : Header) (e : Env) (b : QueryBody)
  /-- QUERY_MESSAGE: a QUERY of kind 2 (R184). -/
  | queryMessage (h : Header) (e : Env) (b : QueryBody)
  /-- QUERY_CLOCK: a QUERY of kind 3 (R184). -/
  | queryClock (h : Header) (e : Env) (b : QueryBody)
  /-- RESTART (R177). -/
  | restart (h : Header) (e : Env)
  /-- MISDIRECTED_FRAME (R10). -/
  | misdirectedFrame (e : Env) (f : WireFrame)
  /-- MALFORMED_FRAME_BODY (R11). -/
  | malformedFrameBody (e : Env) (f : WireFrame)
  /-- LOAD_OTHER_OPERATION: a LOAD with the given operation byte (R30). -/
  | loadOtherOperation (h : Header) (e : Env) (op : Byte) (b : LoadBody)
deriving DecidableEq, Repr

end Sys2Proof
end

