-- ==== Sys2Proof/Config.lean ====
section
/-! DEFINITION. What the part fixes: the sizes the spec states, and the values it leaves open (constants without a
body). -/

namespace Sys2Proof.Config

/-- Message slots in store (R61). -/
def slotCount : Nat := 8192
/-- Subscriber record places in store (R22). -/
def subCount : Nat := 32768
/-- Notices the notice queue holds (R16). -/
def noticeCap : Nat := 32
/-- Entries the charge record queue holds (R160). -/
def queueCap : Nat := 1024
/-- Places of the outstanding table (R122). -/
def outstandingCap : Nat := 1024
/-- Entry places of the delayed deposit table (R40). -/
def delayedCap : Nat := 8
/-- Slots of a subscriber's pending list (R25), and the most that the walk of a RECALL comes to (R54). -/
def pendingCap : Nat := 16
/-- Items of a claim and claims of a window (R98). -/
def claimCap : Nat := 16
/-- Bytes of the store the Store Port addresses (R185). -/
def storeBytes : Nat := 4768900
/-- The greatest prepaid balance, and the greatest subscriber number (section 4 of spec/00). -/
def max24 : Nat := 16777215
/-- The greatest value of a 16-bit counter (R183). -/
def max16 : Nat := 65535

/-- Nominal length of a window in ms (R90). -/
def windowMs : Nat := 2400
/-- Tolerance of a mark in ms (R89). -/
def toleranceMs : Nat := 60
/-- The re-send gap in ms (R163). -/
def resendMs : Nat := 500
/-- The stall time in ms (R164). -/
def stallMs : Nat := 60000
/-- The least time of the FAULT line in ms (R181). -/
def faultMs : Nat := 200
/-- Windows in a lap (section 4 of spec/00). -/
def lapWindows : Nat := 75

/-- FREE VALUE (log 13). The byte that codes a LOAD ANSWER's code: the spec names DONE, BUSY, BAD_FIELD and NOT_OWNED
(here 0 to 3 in the order of the table of R37) and states no numbers for them. -/
opaque loadCodeByte : Nat → Byte
/-- FREE VALUE (log 13). The byte that codes a LOAD ANSWER's busy reason (NONE, PENDING, SENDS, QUEUE_FULL, here 0 to
3): the spec states no numbers for them. -/
opaque busyReasonByte : Nat → Byte
/-- FREE VALUE (log 13). The bytes of a QUERY ANSWER's contents: R184 lists the contents and the spec lays out no
body for them. -/
opaque queryAnswerBytes {α : Type} : α → List Byte

end Sys2Proof.Config
end

