-- ==== Sys2Proof/Machine/State.lean ====
section
/-! DEFINITION. The state of the engine, as plain data, block by block (spec/00, section 2), and the machine right after
reset. -/

namespace Sys2Proof.Machine

/-- No rule of the spec stops the engine on an error (HALTED is an engine state, R174), so there is no fault. Raised by
nothing; safe. -/
inductive Fault where
deriving DecidableEq, Repr

/-- Reasons for which a command has no meaning. -/
inductive Refusal where
  /-- The command of this mnemonic has no meaning yet. Raised by an arm of `exec` not yet written; safe. -/
  | notModelled (mnemonic : String)
deriving DecidableEq, Repr

/-! ### Setup and Fault Unit -/

/-- Engine states (R175). -/
inductive EngineState where
  | init | recovery | service | halted
deriving DecidableEq, Repr

/-- What INIT is waiting for: the setup read or the INIT sweep (R176). -/
inductive InitPhase where
  | setupRead | sweep
deriving DecidableEq, Repr

/-- Kinds of the last start (R175). -/
inductive StartKind where
  | cold | warm
deriving DecidableEq, Repr

/-- Feeds (R69, R98). -/
inductive Feed where
  | urgent | retry | routine
deriving DecidableEq, Repr

/-- One value for each feed. -/
structure PerFeed (α : Type) where
  urgent : α
  retry : α
  routine : α
deriving DecidableEq, Repr

/-- Levels of the feed arbiter (R107). -/
inductive Level where
  | high | low
deriving DecidableEq, Repr

/-- A feed's settings (section 10.1, bytes 31 to 36). -/
structure FeedSetting where
  level : Level
  run : Nat
deriving DecidableEq, Repr

/-- A number window (R20). -/
structure NumWindow where
  first : Nat
  count : Nat
deriving DecidableEq, Repr

/-- The copy of the setup block on chip (section 10.1, R173). -/
structure Setup where
  own : Nat
  collector : Nat
  provisioning : Nat
  maintenance : Nat
  controllers : List Nat
  windows : List NumWindow
  ackSpan : Nat
  maxSends : Nat
  lifetime : Nat
  freshSpan : Nat
  feeds : PerFeed FeedSetting
  holdMark : Nat
  highMark : Nat
  discardTime : Nat
  neighbours : List ZoneSet
deriving DecidableEq, Repr

/-- Where the RECOVERY sweep stands: the next local index it comes to, and the messages of the record it is at that it
has yet to treat (R178). -/
structure RecoveryPos where
  next : Nat
  rest : List Nat
deriving DecidableEq, Repr

/-- The Setup and Fault Unit's state, less the faults and the statistics. -/
structure SetupUnit where
  resetLow : Bool
  engine : EngineState
  initPhase : InitPhase
  lastStart : StartKind
  setup : Setup
  recovery : Option RecoveryPos
deriving DecidableEq, Repr

/-- Fault causes (R180). -/
inductive Cause where
  | setupBad | clockLost | recordsStalled | storeParity | outstandingFull
deriving DecidableEq, Repr

/-- Which causes are latched (R180). -/
structure Causes where
  setupBad : Bool
  clockLost : Bool
  recordsStalled : Bool
  storeParity : Bool
  outstandingFull : Bool
deriving DecidableEq, Repr

/-- Fault causes, the FAULT line timer (kept as the moment it reaches 0, R181) and the last error address (R182). -/
structure Faults where
  causes : Causes
  lineEnd : Option Nat
  lastError : Option Nat
deriving DecidableEq, Repr

/-- Statistics counters (R183). -/
inductive Stat where
  | framesBad | framesMalformed | framesMisdirected | noticesDropped | noticesLost | sendFaults
  | discardedCompletions
  | marksEarly | marksLate | marksOutOfStep | marksMissed | clockJumps | clockAcquired | clockLosses
  | claimsSent | claimsWithdrawn | claimsOffWindow | claimsVoided | itemsCarried | itemsSpilled | reportsMissing
  | tagClashes
  | heardMatched | heardUnmatched | lateHeards | deadlinesExpired
  | creditsApplied | creditExcess | creditsRepeated | lowBalances
  | recordsTaken | recordResends | closesAccepted | closesIgnored
  | latchSetupBad | latchClockLost | latchRecordsStalled | latchStoreParity | latchOutstandingFull
  | storeErrors
deriving DecidableEq, Repr

/-! ### Subscriber records -/

/-- Subscriber states (R29). -/
inductive SubState where
  | vacant | active | stopped
deriving DecidableEq, Repr

/-- Kinds of pagers, of deposits and of what is sent (R44). -/
inductive Kind where
  | tone | numeric | text
deriving DecidableEq, Repr

/-- Plans (R24). -/
inductive Plan where
  | prepaid | postpaid
deriving DecidableEq, Repr

/-- The two accumulator banks (R27). -/
inductive BankId where
  | b0 | b1
deriving DecidableEq, Repr

/-- An accumulator bank (R22). -/
structure Bank where
  messages : Nat
  characters : Nat
  sends : Nat
  charge : Nat
deriving DecidableEq, Repr

/-- Codes of a CREDIT ANSWER (section 8.4). -/
inductive CreditCode where
  | applied | capped | notPrepaid | vacant | notOwned
deriving DecidableEq, Repr

/-- What a CREDIT was answered with (R154, R155). -/
structure CreditResult where
  code : CreditCode
  applied : Nat
  excess : Nat
  balance : Nat
  held : Nat
deriving DecidableEq, Repr

/-- Last heard (R26). -/
structure LastHeard where
  zone : Nat
  grade : Nat
  serial : Serial
deriving DecidableEq, Repr

/-- A subscriber record (R22). The pending count is the length of the pending list (R25); the last credit tag and result
are present together (R155). -/
structure Subscriber where
  state : SubState
  airTag : Nat
  homeWindow : Nat
  pager : Kind
  twoWay : Bool
  maxParts : Nat
  repeatCount : Nat
  plan : Plan
  tariffClass : Nat
  pendingLimit : Nat
  balance : Nat
  held : Nat
  threshold : Nat
  armed : Bool
  lastCredit : Option (Nat × CreditResult)
  nextSeq : Nat
  pendingList : List Nat
  lastHeard : Option LastHeard
  bank0 : Bank
  bank1 : Bank
  mark : BankId
deriving DecidableEq, Repr

/-! ### Notices -/

/-- Priorities (section 3.1). -/
inductive Priority where
  | routine | urgent
deriving DecidableEq, Repr

/-- Flags of a shaped deposit (R44 to R46). -/
structure Flags where
  degraded : Bool
  clamped : Bool
  truncated : Bool
deriving DecidableEq, Repr

/-- Codes of an ANSWER (section 3.4). -/
inductive AnswerCode where
  | accepted | hold | refused
deriving DecidableEq, Repr

/-- Reasons of an ANSWER (section 3.4). -/
inductive Reason where
  | none | vacant | stopped | noTariff | listFull | noCredit | busy
deriving DecidableEq, Repr

/-- An ANSWER's fields (section 3.4). -/
structure Answer where
  tag : Nat
  number : Nat
  code : AnswerCode
  reason : Reason
  seq : Nat
  flags : Flags
  kind : Kind
  parts : Nat
  kept : Nat
  hold : Nat
  recorded : Bool
deriving DecidableEq, Repr

/-- Codes of a RECALL ANSWER (section 3.7). -/
inductive RecallCode where
  | cancelled | noted | tooLate | notFound
deriving DecidableEq, Repr

/-- How a message ended (section 7.5). -/
inductive Ending where
  | delivered | partly | undelivered | expired | cancelled | sentBlind
deriving DecidableEq, Repr

/-- Codes of a LOAD ANSWER (R37). -/
inductive LoadCode where
  | done | busy | badField | notOwned
deriving DecidableEq, Repr

/-- Busy reasons of a LOAD ANSWER (R37). -/
inductive BusyReason where
  | none | pending | sends | queueFull
deriving DecidableEq, Repr

/-! ### Message records -/

/-- A claim link (R62, R65). -/
structure ClaimLink where
  serial : Serial
  number : Nat
  pos : Nat
deriving DecidableEq, Repr

/-- What a CLAIMED message was before its claim (R65). -/
inductive PreClaim where
  | queued
  | resting (notBefore : Serial)
deriving DecidableEq, Repr

/-- Finishing stages (R74, R75). -/
inductive Stage where
  | claim | queue
deriving DecidableEq, Repr

/-- States of a message that is not FREE (R63), each with the fields present in it (R62). -/
inductive MsgState where
  | queued
  | resting (notBefore : Serial)
  | claimed (before : PreClaim)
  | awaiting
  | finishing (ending : Ending) (serial : Serial) (stage : Stage)
deriving DecidableEq, Repr

/-- A charge basis (R147). -/
structure Basis where
  base : Nat
  rate : Nat
  percent : Nat
  plan : Plan
  tariffClass : Nat
deriving DecidableEq, Repr

/-- A settlement (R76). -/
structure Settlement where
  chars : Nat
  charge : Nat
  balance : Option Nat
deriving DecidableEq, Repr

/-- A message record that is not FREE (R62). The parts count is the length of `counts`; the due-list, pending-list and
chain links are read from the lists themselves. -/
structure Msg where
  state : MsgState
  subIndex : Nat
  number : Nat
  seq : Nat
  priority : Priority
  kind : Kind
  flags : Flags
  origin : Nat
  tag : Nat
  accepted : Serial
  counts : List Nat
  chars : List Byte
  aired : PartMask
  held : PartMask
  sends : Nat
  zones : Option ZoneSet
  link : Option ClaimLink
  feed : Option Feed
  recallMark : Bool
  basis : Basis
  hold : Nat
  settlement : Option Settlement
deriving DecidableEq, Repr

/-- The free pool (R61): its chain runs through `released`, front first, and then through the slots from `fresh` up, in
ascending order. -/
structure Pool where
  released : List Nat
  fresh : Nat
deriving DecidableEq, Repr

/-- The Message Store. A slot not listed in `msgs` is FREE; a due list not listed in `due` (key 3 × window + feed) is
empty; a cursor is a slot or END. -/
structure MsgStore where
  msgs : Table Msg
  pool : Pool
  due : Table (List Nat)
  waitList : List Nat
  cursors : PerFeed (Option Nat)
  serveDue : Bool
deriving DecidableEq, Repr

/-! ### Intake Unit -/

/-- A latched deposit (R40). -/
structure Latched where
  priority : Priority
  kind : Kind
  count : Nat
  chars : List Byte
deriving DecidableEq, Repr

/-- Whether an entry of the delayed deposit table is PENDING, or COMPLETE with its answer and the moment its discard
timer runs out (R40). -/
inductive DelayedStatus where
  | pending
  | complete (answer : Answer) (discardAt : Nat)
deriving DecidableEq, Repr

/-- An entry of the delayed deposit table (R40). -/
structure Delayed where
  origin : Nat
  tag : Nat
  number : Nat
  index : Nat
  latched : Latched
  status : DelayedStatus
deriving DecidableEq, Repr

/-- The Intake Unit: the entries oldest first, and whether a report of R50 waits for its run. -/
structure Intake where
  table : List Delayed
  runDue : Bool
deriving DecidableEq, Repr

/-! ### Window Clock -/

/-- Clock states (R84). -/
inductive ClockState where
  | search | tracking | coasting
deriving DecidableEq, Repr

/-- Air time (R83). -/
structure AirTime where
  lap : Nat
  window : Nat
deriving DecidableEq, Repr

/-- A plan of capacity (section 5.1). -/
structure AirPlan where
  caps : List Nat
  zones : ZoneSet
deriving DecidableEq, Repr

/-- How the current window was begun (R84). -/
inductive Begun where
  | mark | coast
deriving DecidableEq, Repr

/-- The current window (R84): its air time, its start on the grid, and how it was begun. -/
structure Current where
  air : AirTime
  start : Nat
  begun : Begun
deriving DecidableEq, Repr

/-- The candidate (R84). -/
structure Sighting where
  air : AirTime
  arrival : Nat
deriving DecidableEq, Repr

/-- The held out-of-step mark (R84). -/
structure HeldMark where
  air : AirTime
  arrival : Nat
  plan : AirPlan
deriving DecidableEq, Repr

/-- The Window Clock (R84). -/
structure Clock where
  state : ClockState
  current : Option Current
  misses : Nat
  candidate : Option Sighting
  held : Option HeldMark
  latest : Option (AirTime × AirPlan)
  serial : Serial
deriving DecidableEq, Repr

/-! ### Claim Builder -/

/-- An item of a claim (R98). -/
structure Item where
  slot : Nat
  parts : PartMask
  zones : ZoneSet
  cost : Nat
  first : Bool
deriving DecidableEq, Repr

/-- A claim record (R98). -/
structure ClaimRec where
  number : Nat
  items : List Item
  resolved : Bool
deriving DecidableEq, Repr

/-- A window record (R98). Its phase is the place it stands in: `openWin` or `closedWin` of the Claim Builder. -/
structure WindowRec where
  air : AirTime
  serial : Serial
  plan : AirPlan
  sent : Nat
  claims : List ClaimRec
deriving DecidableEq, Repr

/-- The feed arbiter (R98, R107). -/
structure Arbiter where
  run : PerFeed Nat
  high : Option Feed
  low : Option Feed
deriving DecidableEq, Repr

/-- A composition or a prepared claim (R98): items in order, tally per zone, what was saved at the start, and the feed
the walk stays with until the next boundary (R107). -/
structure Composition where
  items : List Item
  tally : List Nat
  savedArbiter : Arbiter
  savedBlocked : Nat
  chosen : Option Feed
deriving DecidableEq, Repr

/-- The claim slot (R98). -/
inductive ClaimSlot where
  | idle
  | composing (c : Composition)
  | waiting
  | prepared (c : Composition)
  | sent
deriving DecidableEq, Repr

/-- The Claim Builder (R98). `startTest` is the model's own: a moment at which R103 tests its conditions came within the
change being made. -/
structure ClaimBuilder where
  openWin : Option WindowRec
  closedWin : Option WindowRec
  fill : List Nat
  arbiter : Arbiter
  blocked : List (Nat × Feed)
  slot : ClaimSlot
  startTest : Bool
deriving DecidableEq, Repr

/-! ### Acknowledgement Tracker -/

/-- State of an outstanding entry (R122). -/
inductive EntryState where
  | waiting (deadline : Serial)
  | between
deriving DecidableEq, Repr

/-- An outstanding entry (R122). -/
structure Entry where
  tag : Nat
  seq : Nat
  slot : Nat
  state : EntryState
deriving DecidableEq, Repr

/-- A reservation (R122). -/
structure Reservation where
  tag : Nat
  seq : Nat
  slot : Nat
deriving DecidableEq, Repr

/-- The Acknowledgement Tracker: the outstanding table, and the deadline list as the slots of its WAITING entries in the
order in which they became WAITING (R122). -/
structure Tracker where
  entries : List Entry
  reservations : List Reservation
  deadlines : List Nat
deriving DecidableEq, Repr

/-! ### Charge Unit -/

/-- A tariff entry (R142). -/
structure TariffEntry where
  base : Nat
  rate : Nat
  percent : Nat
deriving DecidableEq, Repr

/-- The Charge Unit (R142). A class not listed in a table has the entry 0, 0, 0. -/
structure Tariffs where
  set : Bool
  loaded : BitVec 8
  marks : BitVec 8
  active : Table TariffEntry
  staged : Table TariffEntry
deriving DecidableEq, Repr

/-! ### Record Queue -/

/-- Fields of a USAGE record, less the record number (section 1.8). -/
structure Usage where
  number : Nat
  seq : Nat
  accepted : Serial
  finished : Serial
  ending : Ending
  priority : Priority
  parts : Nat
  held : PartMask
  chars : Nat
  sends : Nat
  charge : Nat
  hold : Nat
  plan : Plan
  tariffClass : Nat
  balance : Option Nat
deriving DecidableEq, Repr

/-- Roles of a PERIOD TOTAL (R161). -/
inductive Role where
  | closed | opened
deriving DecidableEq, Repr

/-- Bodies of charge records (R161). -/
inductive RecordBody where
  | usage (u : Usage)
  | periodTotal (number period : Nat) (role : Role) (final : Bool) (bank : Bank)
  | periodDone (period count : Nat)
  | lowBalance (number balance threshold : Nat)
deriving DecidableEq, Repr

/-- A charge record with its record number (R161). -/
structure Record where
  number : Nat
  body : RecordBody
deriving DecidableEq, Repr

/-- Send state of the head record (R163); GAP with the moment its re-send timer runs out. -/
inductive SendState where
  | ready
  | onAir
  | gap (readyAt : Nat)
deriving DecidableEq, Repr

/-- A period sweep in flight (R165, R168). -/
structure Sweep where
  next : Nat
  count : Nat
  paused : Bool
deriving DecidableEq, Repr

/-- The Record Queue (R160 to R168). `head` is the entry of the ring in which the head record stands, or the next one to
be written when the queue is empty (R185, log 26). `stallFrom` is the moment the stall timer stood at 0 (R164). -/
structure RecordQueue where
  records : List Record
  head : Nat
  nextNumber : Nat
  send : Option SendState
  stallFrom : Option Nat
  period : Option Nat
  selector : BankId
  sweep : Option Sweep
deriving DecidableEq, Repr

/-! ### Query answers and the notice queue -/

/-- Contents of a QUERY ANSWER of statistics (R184). -/
structure StatsView where
  engine : EngineState
  lastStart : StartKind
  causes : Causes
  lastError : Option Nat
  stats : Table Nat
  freeCount : Nat
  pendingEntries : Nat
  completeEntries : Nat
  notices : Nat
  entries : Nat
  reservations : Nat
  waitingEntries : Nat
  occupancy : Nat
  waitList : Nat
  period : Option Nat
  selector : BankId
  sweep : Option Sweep
  tariffs : Tariffs
deriving DecidableEq, Repr

/-- The state of a message's outstanding entry as a QUERY reports it (R184). -/
inductive EntryView where
  | waiting (deadline : Serial)
  | between
  | reservation
  | none
deriving DecidableEq, Repr

/-- The links of a message record (R62): neighbours on its due list and pending list, and the chain link of the
finishing wait list. -/
structure Links where
  duePrev : Option Nat
  dueNext : Option Nat
  pendPrev : Option Nat
  pendNext : Option Nat
  chain : Option Nat
deriving DecidableEq, Repr

/-- The seven clock counters (R84, R94). -/
structure ClockCounters where
  marksEarly : Nat
  marksLate : Nat
  marksOutOfStep : Nat
  marksMissed : Nat
  clockJumps : Nat
  clockAcquired : Nat
  clockLosses : Nat
deriving DecidableEq, Repr

/-- Contents of a QUERY ANSWER (R184). -/
inductive QueryContents where
  | stats (v : StatsView)
  | subscriber (index : Nat) (record : Subscriber) (messages : List (Nat × Nat × MsgState))
  | freeSlot (chain : Option Nat)
  | message (m : Msg) (links : Links) (entry : EntryView)
  | clock (c : Clock) (counters : ClockCounters) (candidateAge heldAge : Option Nat)
  | notOwned
deriving DecidableEq, Repr

/-- Kinds of QUERY (section 10.6). -/
inductive QueryKind where
  | stats | subscriber | message | clock
deriving DecidableEq, Repr

/-- The body fields of a notice, by kind (R16). -/
inductive NoticeBody where
  | answer (a : Answer)
  | recallAnswer (number seq : Nat) (code : RecallCode) (held : PartMask)
  | outcome (tag number seq : Nat) (ending : Ending) (parts : Nat) (aired held : PartMask) (sends charge : Nat)
      (finished : Serial)
  | loadAnswer (tag number : Nat) (code : LoadCode) (reason : BusyReason) (pending released : Nat) (state : SubState)
  | creditAnswer (tag number : Nat) (result : CreditResult) (recorded : Bool)
  | queryAnswer (tag : Nat) (kind : QueryKind) (contents : QueryContents)
deriving DecidableEq, Repr

/-- An entry of the notice queue (R16). -/
structure Notice where
  dest : Nat
  body : NoticeBody
  attempts : Nat
deriving DecidableEq, Repr

/-- What the engine is sending (R14): the head notice, the head record, or a CLAIM, with whether it was abandoned since
its key was won (R113). -/
inductive OnAir where
  | notice
  | record
  | claim (abandoned : Bool)
deriving DecidableEq, Repr

/-- The Span Port (R12, R13, R16, R18). `frame` is the frame the engine last began to send, laid out as it stood when
its key was won (R5): it is the frame on the medium while `onAir` names its source, and nothing reads it afterwards (log
42). -/
structure SpanPort where
  notices : List Notice
  onAir : Option OnAir
  frame : Option WireFrame
  waitingGap : Bool
  ackDriven : Bool
deriving DecidableEq, Repr

/-! ### Store parity -/

/-- What a byte of the store belongs to (R185): a subscriber record; a message record less its characters, or one of its
characters; an entry of the charge record ring; the head and tail of a due list; or one of the items that R185 lists in
the control area: the pool's front and count, the wait list's head, tail and length, the record queue's head, tail and
occupancy, the next record number, the period state, the window serial, the tariff state and marks, and the entries of
the active and staged tables. -/
inductive StorePlace where
  | subscriber (index : Nat)
  | message (slot : Nat)
  | character (slot place : Nat)
  | record (entry : Nat)
  | dueList (key : Nat)
  | pool
  | waitList
  | pointers
  | nextNumber
  | period
  | serial
  | tariffs
  | active (cls : Nat)
  | staged (cls : Nat)
deriving DecidableEq, Repr

/-! ### The state -/

/-- The state of the engine. What stands in store is held as its bytes read (R182, log 26): a byte gone bad changes it,
as `State.goesBad` says. `parity` lists the bytes of the store whose parity bit does not agree, by address, each with
what it belongs to (R182, R185): every other byte has good parity. A subscriber record not listed in `subs` has the
VACANT values of R38; a counter not listed in `stats` is 0. -/
structure State where
  pending : List Instr
  now : Nat
  unit : SetupUnit
  faults : Faults
  stats : Table Nat
  span : SpanPort
  subs : Table Subscriber
  intake : Intake
  store : MsgStore
  clock : Clock
  claims : ClaimBuilder
  tracker : Tracker
  charge : Tariffs
  queue : RecordQueue
  parity : Table StorePlace
deriving DecidableEq, Repr

/-! ### Named updates, one for each part of the state -/

/-- Replaces the command queue. -/
def State.withPending (s : State) (v : List Instr) : State := { s with pending := v }
/-- Replaces the time base. -/
def State.withNow (s : State) (v : Nat) : State := { s with now := v }
/-- Replaces the Setup and Fault Unit's state. -/
def State.withUnit (s : State) (v : SetupUnit) : State := { s with unit := v }
/-- Replaces the faults. -/
def State.withFaults (s : State) (v : Faults) : State := { s with faults := v }
/-- Replaces the statistics. -/
def State.withStats (s : State) (v : Table Nat) : State := { s with stats := v }
/-- Replaces the Span Port's state. -/
def State.withSpan (s : State) (v : SpanPort) : State := { s with span := v }
/-- Replaces the subscriber records. -/
def State.withSubs (s : State) (v : Table Subscriber) : State := { s with subs := v }
/-- Replaces the Intake Unit's state. -/
def State.withIntake (s : State) (v : Intake) : State := { s with intake := v }
/-- Replaces the Message Store's state. -/
def State.withStore (s : State) (v : MsgStore) : State := { s with store := v }
/-- Replaces the Window Clock's state. -/
def State.withClock (s : State) (v : Clock) : State := { s with clock := v }
/-- Replaces the Claim Builder's state. -/
def State.withClaims (s : State) (v : ClaimBuilder) : State := { s with claims := v }
/-- Replaces the Acknowledgement Tracker's state. -/
def State.withTracker (s : State) (v : Tracker) : State := { s with tracker := v }
/-- Replaces the Charge Unit's state. -/
def State.withCharge (s : State) (v : Tariffs) : State := { s with charge := v }
/-- Replaces the Record Queue's state. -/
def State.withQueue (s : State) (v : RecordQueue) : State := { s with queue := v }
/-- Replaces the bytes of bad parity. -/
def State.withParity (s : State) (v : Table StorePlace) : State := { s with parity := v }

/-! ### Cold values, as each chapter gives them -/

/-- All causes clear (R176). -/
def Causes.clear : Causes := ⟨false, false, false, false, false⟩
/-- A bank with all counters 0 (R38). -/
def Bank.zero : Bank := ⟨0, 0, 0, 0⟩
/-- The VACANT values (R38). -/
def Subscriber.vacant : Subscriber :=
  { state := .vacant, airTag := 0, homeWindow := 0, pager := .tone, twoWay := false, maxParts := 1, repeatCount := 1,
    plan := .prepaid, tariffClass := 0, pendingLimit := 1, balance := 0, held := 0, threshold := 0, armed := false,
    lastCredit := none, nextSeq := 0, pendingList := [], lastHeard := none, bank0 := Bank.zero, bank1 := Bank.zero,
    mark := .b0 }
/-- The arbiter state an opening or a reset leaves (R98, R99). -/
def Arbiter.clear : Arbiter := ⟨⟨0, 0, 0⟩, none, none⟩
/-- The three cursors at END (R71). -/
def cursorsEnd : PerFeed (Option Nat) := ⟨none, none, none⟩
/-- Sixteen zone counters at 0 (R98). -/
def zonesZero : List Nat := [0, 0, 0, 0, 0, 0, 0, 0, 0, 0, 0, 0, 0, 0, 0, 0]

/-- The Span Port after cold reset (R18). -/
def SpanPort.cold : SpanPort :=
  { notices := [], onAir := none, frame := none, waitingGap := true, ackDriven := false }
/-- The Intake Unit after cold reset (R60). -/
def Intake.cold : Intake := { table := [], runDue := false }
/-- The Message Store as the INIT sweep and cold reset leave it (R80). -/
def MsgStore.cold : MsgStore :=
  { msgs := [], pool := { released := [], fresh := 0 }, due := [], waitList := [], cursors := cursorsEnd,
    serveDue := false }
/-- The Window Clock after cold reset (R84). -/
def Clock.cold : Clock :=
  { state := .search, current := none, misses := 0, candidate := none, held := none, latest := none, serial := 0 }
/-- The Claim Builder after cold reset and after warm restart (R98). -/
def ClaimBuilder.cold : ClaimBuilder :=
  { openWin := none, closedWin := none, fill := zonesZero, arbiter := Arbiter.clear, blocked := [], slot := .idle,
    startTest := false }
/-- The outstanding table after cold reset and after warm restart (R140, R141). -/
def Tracker.cold : Tracker := { entries := [], reservations := [], deadlines := [] }
/-- The tariff tables, state and marks after cold reset (R142). -/
def Tariffs.cold : Tariffs := { set := false, loaded := 0, marks := 0, active := [], staged := [] }
/-- The Record Queue after cold reset (R165, R172). -/
def RecordQueue.cold : RecordQueue :=
  { records := [], head := 0, nextNumber := 0, send := none, stallFrom := none, period := none, selector := .b0, sweep := none }
/-- The setup copy before any setup block has been accepted. DESIGN CHOICE, unsafe (log 3): the spec states no value. -/
def Setup.blank : Setup :=
  { own := 0, collector := 0, provisioning := 0, maintenance := 0, controllers := [0],
    windows := [⟨0, 0⟩, ⟨0, 0⟩, ⟨0, 0⟩, ⟨0, 0⟩], ackSpan := 0, maxSends := 0, lifetime := 0, freshSpan := 0,
    feeds := ⟨⟨.high, 0⟩, ⟨.high, 0⟩, ⟨.high, 0⟩⟩, holdMark := 0, highMark := 0, discardTime := 0, neighbours := [] }
/-- No cause latched, the line timer stopped, the last error address absent (R176). -/
def Faults.clear : Faults := { causes := Causes.clear, lineEnd := none, lastError := none }

/-- The machine right after reset: RESET has just been released, so the engine state is INIT and the setup read is under
way (R176). Every other field has the cold reset value its chapter gives; the store has the INIT sweep's values, which
it is given before anything reads it (DESIGN CHOICE, logs 1 to 3). -/
def State.reset : State :=
  { pending := [], now := 0,
    unit := { resetLow := false, engine := .init, initPhase := .setupRead, lastStart := .cold, setup := Setup.blank,
              recovery := none },
    faults := Faults.clear, stats := [], span := SpanPort.cold, subs := [], intake := Intake.cold,
    store := MsgStore.cold, clock := Clock.cold, claims := ClaimBuilder.cold, tracker := Tracker.cold,
    charge := Tariffs.cold, queue := RecordQueue.cold, parity := [] }

end Sys2Proof.Machine
end

