-- ==== Sys2Proof/Machine/Table.lean ====
section
/-! DEFINITION. Tables of the store, held sparsely: keys strictly rising, one row for each listed key. -/

namespace Sys2Proof.Machine

/-- The row listed under a key, if any. -/
def tableFind {α : Type} : Table α → Nat → Option α
  | [], _ => none
  | (j, a) :: t, k => if k = j then some a else tableFind t k

/-- Lists a row under a key, in its place, in the stead of any row listed there. -/
def tablePut {α : Type} : Table α → Nat → α → Table α
  | [], k, v => [(k, v)]
  | (j, a) :: t, k, v =>
    if k < j then (k, v) :: (j, a) :: t
    else if k = j then (k, v) :: t
    else (j, a) :: tablePut t k v

/-- Takes the row of a key out of the table. -/
def tableErase {α : Type} : Table α → Nat → Table α
  | [], _ => []
  | (j, a) :: t, k => if k = j then t else (j, a) :: tableErase t k

/-- The row a key reads as, where an unlisted key reads as `d`. -/
def tableGet {α : Type} (t : Table α) (d : α) (k : Nat) : α := (tableFind t k).getD d

/-- Writes a row, where an unlisted key reads as `d`: writing `d` takes the entry out, so equal tables are equal
data. -/
def tableSet {α : Type} [DecidableEq α] (t : Table α) (d : α) (k : Nat) (v : α) : Table α :=
  if v = d then tableErase t k else tablePut t k v

/-- Every key of the table is above `k`. -/
def tableAbove {α : Type} (k : Nat) : Table α → Bool
  | [] => true
  | (j, _) :: t => decide (k < j) && tableAbove k t

/-- The keys rise strictly. -/
def tableSorted {α : Type} : Table α → Bool
  | [] => true
  | (j, _) :: t => tableAbove j t && tableSorted t

/-- The canonical form of a table whose unlisted keys read as `d`: the keys rise strictly and no entry is `d`. -/
def tableWf {α : Type} [DecidableEq α] (d : α) (t : Table α) : Bool :=
  tableSorted t && t.all (fun p => decide (p.2 ≠ d))

end Sys2Proof.Machine
end

