-- ==== Sys2Proof/Machine/Flags.lean ====
section
/-! DEFINITION. Flags of the engine: the time base, the statistics counters (R183), the fault causes and the FAULT line
(R180, R181), and store parity (R182). -/

namespace Sys2Proof.Machine

/-- Moves the time base to the moment at which a step happens (log 4): it does not go back. -/
def State.advance (s : State) (moment : Nat) : State := s.withNow (max s.now moment)

/-- The place of a counter in the statistics. -/
def statKey (c : Stat) : Nat := c.ctorIdx

/-- A counter's value. -/
def State.stat (s : State) (c : Stat) : Nat := tableGet s.stats 0 (statKey c)

/-- Counts one event, saturating at 65,535 (R183). -/
def State.bump (s : State) (c : Stat) : State :=
  s.withStats (tableSet s.stats 0 (statKey c) (min Config.max16 (s.stat c + 1)))

/-- The latch count of a cause (R180). -/
def latchStat : Cause → Stat
  | .setupBad => .latchSetupBad
  | .clockLost => .latchClockLost
  | .recordsStalled => .latchRecordsStalled
  | .storeParity => .latchStoreParity
  | .outstandingFull => .latchOutstandingFull

/-- The causes with one more latched. -/
def causesLatch (k : Causes) : Cause → Causes
  | .setupBad => { k with setupBad := true }
  | .clockLost => { k with clockLost := true }
  | .recordsStalled => { k with recordsStalled := true }
  | .storeParity => { k with storeParity := true }
  | .outstandingFull => { k with outstandingFull := true }

/-- Whether a cause is latched. -/
def causesHas (k : Causes) : Cause → Bool
  | .setupBad => k.setupBad
  | .clockLost => k.clockLost
  | .recordsStalled => k.recordsStalled
  | .storeParity => k.storeParity
  | .outstandingFull => k.outstandingFull

/-- Whether any cause is latched. -/
def causesAny (k : Causes) : Bool :=
  k.setupBad || k.clockLost || k.recordsStalled || k.storeParity || k.outstandingFull

/-- A latching event (R180): latches the cause, raises its latch count, and restarts the FAULT line timer at 200 ms. -/
def State.latch (s : State) (c : Cause) : State :=
  (s.withFaults { s.faults with causes := causesLatch s.faults.causes c, lineEnd := some (s.now + Config.faultMs) }).bump
    (latchStat c)

/-- One store byte read with bad parity (R182): STORE_PARITY is latched, STORE_ERRORS counted, and its address kept. The
Store Port addresses only the bytes of the map (R185). -/
def State.parityError (s : State) (address : Nat) : State :=
  if address < Config.storeBytes then
    let s1 := (s.latch .storeParity).bump .storeErrors
    s1.withFaults { s1.faults with lastError := some address }
  else s

/-- Store bytes read with bad parity, in the order read (R182). -/
def State.noteParity (s : State) (addresses : List Nat) : State := addresses.foldl State.parityError s

/-- The addresses of the bytes of bad parity that belong to places, in ascending order. -/
def State.badBytes (s : State) (places : List StorePlace) : List Nat :=
  (s.parity.filter (fun b => decide (b.2 ∈ places))).map Prod.fst

/-- The engine reads places of the store (R182): every byte of them that has bad parity is latched and counted. Which
places a rule reads, each of them whole, is the model's reading of it (log 7). -/
def State.noteReads (s : State) (places : List StorePlace) : State := s.noteParity (s.badBytes places)

/-- A place that is read before it is written again. The characters of an accepted message, a record added to the ring
and a tariff entry are written without being read (log 7). -/
def StorePlace.readFirst : StorePlace → Bool
  | .character _ _ => false
  | .record _ => false
  | .active _ => false
  | .staged _ => false
  | _ => true

/-- The engine writes places of the store again, each of them whole: what it reads of them first is noted, and every
byte of them carries good parity from then on (R182, log 7). -/
def State.rewrite (s : State) (places : List StorePlace) : State :=
  (s.noteReads (places.filter StorePlace.readFirst)).withParity (s.parity.filter (fun b => decide (b.2 ∉ places)))

/-- The FAULT output (R181, R187): asserted while a cause is latched or the line timer is above 0; released while RESET
is asserted. -/
def State.faultLine (s : State) : Bool :=
  !s.unit.resetLow && (causesAny s.faults.causes || s.faults.lineEnd.any (fun t => decide (s.now < t)))

/-- The engine takes part in the Span: SERVICE, with RESET not asserted (R13, R176). -/
def State.serving (s : State) : Bool := decide (s.unit.engine = .service) && !s.unit.resetLow

/-- The RECOVERY sweep is in flight, with RESET not asserted (R178). -/
def State.recovering (s : State) : Bool := decide (s.unit.engine = .recovery) && !s.unit.resetLow

end Sys2Proof.Machine
end

