-- ==== Sys2Proof/Machine/Ops.lean ====
section
/-! DEFINITION. Shared operations over the engine's records, lists and queues. -/

namespace Sys2Proof.Machine

/-! ### Serials, feeds, lists, masks -/

/-- The distance from an earlier serial to a later one, modulo 2^32 (R85). -/
def serialDist (later earlier : Serial) : Nat := (later - earlier).toNat

/-- `a` is above `b`: the distance from `b` to `a` is 1 to 2^31 − 1 (DEDUCED from R85's modulus, log 11). -/
def serialAbove (a b : Serial) : Bool := decide (0 < serialDist a b ∧ serialDist a b < 2147483648)

/-- A feed's number (R185): 0 URGENT, 1 RETRY, 2 ROUTINE. -/
def feedIndex : Feed → Nat
  | .urgent => 0
  | .retry => 1
  | .routine => 2

/-- The feed after a feed in the cycle URGENT, RETRY, ROUTINE (R107). -/
def feedNext : Feed → Feed
  | .urgent => .retry
  | .retry => .routine
  | .routine => .urgent

/-- The value of a feed. -/
def feedGet {α : Type} (p : PerFeed α) : Feed → α
  | .urgent => p.urgent
  | .retry => p.retry
  | .routine => p.routine

/-- Writes the value of a feed. -/
def feedPut {α : Type} (p : PerFeed α) (f : Feed) (v : α) : PerFeed α :=
  match f with
  | .urgent => { p with urgent := v }
  | .retry => { p with retry := v }
  | .routine => { p with routine := v }

/-- The number of the due list of a window and a feed (R69, R185). -/
def dueKey (window : Nat) (f : Feed) : Nat := 3 * window + feedIndex f

/-- The one after `x` in a list. -/
def nextIn (x : Nat) : List Nat → Option Nat
  | [] => none
  | y :: ys => if y = x then ys.head? else nextIn x ys

/-- The one before `x` in a list. -/
def prevIn (x : Nat) : List Nat → Option Nat
  | y :: z :: zs => if z = x then some y else prevIn x (z :: zs)
  | _ => none

/-- The mask of all the parts of a message of `n` parts. -/
def allParts (n : Nat) : PartMask := BitVec.ofNat 8 (2 ^ n - 1)

/-- Whether the part of 0-based place `p` is in a mask. -/
def hasPart (m : PartMask) (p : Nat) : Bool := m.getLsbD p

/-- Whether a zone is in a set. -/
def hasZone (z : ZoneSet) (i : Nat) : Bool := z.getLsbD i

/-- A value for each of the 16 zones. -/
def zoneList (f : Nat → Nat) : List Nat :=
  [f 0, f 1, f 2, f 3, f 4, f 5, f 6, f 7, f 8, f 9, f 10, f 11, f 12, f 13, f 14, f 15]

/-- The value of a zone. -/
def zoneAt (l : List Nat) (z : Nat) : Nat := l.getD z 0

/-- Quotient rounded up. -/
def ceilDiv (a b : Nat) : Nat := (a + b - 1) / b

/-! ### Subscriber numbers (R20, R21) -/

/-- Decodes a number through the number windows, the first of which has index base `base` (R20, R21). -/
def decodeFrom (base : Nat) : List NumWindow → Nat → Option Nat
  | [], _ => none
  | w :: ws, n =>
    if w.first ≤ n ∧ n < w.first + w.count then some (base + (n - w.first)) else decodeFrom (base + w.count) ws n

/-- The local index of an owned number; `none` is *not owned* (R21). -/
def State.decode (s : State) (number : Nat) : Option Nat := decodeFrom 0 s.unit.setup.windows number

/-- The number that a local index stands for: the decode of R21 read the other way. An index that no number decodes to
stands for 0 from the total of the counts on, and for its window's first number plus its offset past 16,777,215; bad
bytes alone give such a record a total to carry it (DESIGN CHOICE, unsafe: log 48). -/
def numberFrom (base : Nat) : List NumWindow → Nat → Nat
  | [], _ => 0
  | w :: ws, i => if i < base + w.count then w.first + (i - base) else numberFrom (base + w.count) ws i

/-- The subscriber number of a local index. -/
def State.numberOf (s : State) (index : Nat) : Nat := numberFrom 0 s.unit.setup.windows index

/-! ### Records in store -/

/-- The subscriber record of a local index; an unlisted one has the VACANT values (R38). -/
def State.sub (s : State) (index : Nat) : Subscriber := tableGet s.subs Subscriber.vacant index

/-- Writes a subscriber record. One of a local index above 32,767, which a bad byte alone names, is kept as a record of
no address in the map (DESIGN CHOICE, unsafe: log 47). -/
def State.putSub (s : State) (index : Nat) (r : Subscriber) : State :=
  (s.withSubs (tableSet s.subs Subscriber.vacant index r)).rewrite [.subscriber index]

/-- The message record of a slot; `none` is FREE. -/
def State.msg (s : State) (slot : Nat) : Option Msg := tableFind s.store.msgs slot

/-- Writes a message record, its characters apart, which no rule changes after acceptance. -/
def State.putMsg (s : State) (slot : Nat) (m : Msg) : State :=
  (s.withStore { s.store with msgs := tablePut s.store.msgs slot m }).rewrite [.message slot]

/-- Writes a link of each of the message records given, the neighbours of one that joins or leaves a list (R25, R70,
R77). The links themselves are read from the lists (log 27). -/
def State.relink (s : State) (slots : List (Option Nat)) : State :=
  s.rewrite (slots.filterMap (Option.map StorePlace.message))

/-- What a rule that treats a message reads of it: its record and its subscriber's (log 7). -/
def State.readsOf (s : State) (slot : Nat) : List StorePlace :=
  match s.msg slot with
  | some m => [.message slot, .subscriber m.subIndex]
  | none => [.message slot]

/-- A subscriber's bank (R27). -/
def bankOf (r : Subscriber) : BankId → Bank
  | .b0 => r.bank0
  | .b1 => r.bank1

/-- Writes a subscriber's bank. -/
def putBank (r : Subscriber) (id : BankId) (b : Bank) : Subscriber :=
  match id with
  | .b0 => { r with bank0 := b }
  | .b1 => { r with bank1 := b }

/-- The other bank (R27). -/
def otherBank : BankId → BankId
  | .b0 => .b1
  | .b1 => .b0

/-- Any of a bank's four counters is above 0 (R36, R168). -/
def bankUsed (b : Bank) : Bool := decide (0 < b.messages ∨ 0 < b.characters ∨ 0 < b.sends ∨ 0 < b.charge)

/-! ### The free pool (R61) -/

/-- The front of the pool's chain. -/
def poolFront (p : Pool) : Option Nat :=
  match p.released with
  | slot :: _ => some slot
  | [] => if p.fresh < Config.slotCount then some p.fresh else none

/-- The pool with its front taken. -/
def poolPop (p : Pool) : Pool :=
  match p.released with
  | _ :: rest => { p with released := rest }
  | [] => { p with fresh := p.fresh + 1 }

/-- The pool with a slot put at its front. A slot that comes back just before the ascending run joins the run, so equal
chains are equal data. -/
def poolPush (p : Pool) (slot : Nat) : Pool :=
  if p.released = [] ∧ slot + 1 = p.fresh then { p with fresh := slot } else { p with released := slot :: p.released }

/-- The free count (R61). -/
def poolCount (p : Pool) : Nat := p.released.length + (Config.slotCount - p.fresh)

/-- The chain link of a FREE slot: the slot after it in the chain (R61). A slot that reads FREE and is not on the chain,
which a bad byte alone gives, is answered with the slot after it as its link (DESIGN CHOICE, unsafe: log 47). -/
def poolNext (p : Pool) (slot : Nat) : Option Nat :=
  if slot ∈ p.released then
    match nextIn slot p.released with
    | some next => some next
    | none => if p.fresh < Config.slotCount then some p.fresh else none
  else if slot + 1 < Config.slotCount then some (slot + 1) else none

/-! ### Notices (R16) -/

/-- Takes the oldest notice not on the medium out of the queue: the head, or the second while the head is being
sent. -/
def dropOldest (onAir : Option OnAir) (q : List Notice) : List Notice :=
  match onAir, q with
  | some .notice, head :: rest => head :: rest.drop 1
  | _, q => q.drop 1

/-- Adds a notice at the tail with attempt count 0 (R16). -/
def State.addNotice (s : State) (dest : Nat) (body : NoticeBody) : State :=
  let n : Notice := { dest := dest, body := body, attempts := 0 }
  if s.span.notices.length < Config.noticeCap then
    s.withSpan { s.span with notices := s.span.notices ++ [n] }
  else
    (s.withSpan { s.span with notices := dropOldest s.span.onAir s.span.notices ++ [n] }).bump .noticesDropped

/-! ### Charge records (R160, R161) -/

/-- The occupancy of the charge record queue. -/
def State.occupancy (s : State) : Nat := s.queue.records.length

/-- The queue has room for `n` records (R160). -/
def State.roomFor (s : State) (n : Nat) : Bool := decide (s.occupancy + n ≤ Config.queueCap)

/-- The ring entry in which the record `i` places behind the head stands; at the occupancy, the queue's tail, where the
next record is written (R160, R185). -/
def State.ringEntry (s : State) (i : Nat) : Nat := (s.queue.head + i) % Config.queueCap

/-- Adds a record at the tail with the next record number (R161). A record that becomes head in SERVICE becomes READY
and starts the stall timer (R163, R164); in RECOVERY it does so when SERVICE is entered (R172). -/
def State.enqueue (s : State) (body : RecordBody) : State :=
  let q := s.queue
  let q1 := { q with records := q.records ++ [⟨q.nextNumber, body⟩], nextNumber := (q.nextNumber + 1) % 16777216 }
  (if q.records.isEmpty && s.serving then s.withQueue { q1 with send := some .ready, stallFrom := some s.now }
  else s.withQueue q1).rewrite [.record (s.ringEntry s.occupancy), .pointers, .nextNumber]

/-! ### Claim Builder: the open window and wake events -/

/-- The number of the claim window, when a window is OPEN. -/
def State.claimWindow (s : State) : Option Nat := s.claims.openWin.map (fun w => w.air.window)

/-- A composition's walk is on the due lists of this window number (R71). A cursor follows the changes of its list
during the walk alone: once the composition has ended or been abandoned, the cursors keep their last values until the
next one sets them, and nothing reads them (DESIGN CHOICE, safe: log 38). -/
def State.walks (s : State) (window : Nat) : Bool :=
  match s.claims.slot with
  | .composing _ => decide (s.claimWindow = some window)
  | _ => false

/-- A wake event (R103): a WAITING claim slot tests for a composition. While the slot is COMPOSING it has no effect, and
it is not kept for the end of the composition: a revert or a removal between the step at which no feed is live and
COMPOSITION_END leaves the slot to WAIT for the next wake event (DESIGN CHOICE, unsafe: log 40). -/
def State.wake (s : State) : State :=
  match s.claims.slot with
  | .waiting => s.withClaims { s.claims with startTest := true }
  | _ => s

/-- A wake event that concerns the due lists of one window number (R103). -/
def State.wakeAt (s : State) (window : Nat) : State :=
  if s.claimWindow = some window then s.wake else s

/-! ### The feed arbiter (R107, R108) -/

/-- Which feeds are live: their cursor is not END (R107). -/
def liveFeeds (c : PerFeed (Option Nat)) : PerFeed Bool := ⟨c.urgent.isSome, c.retry.isSome, c.routine.isSome⟩

/-- The cycle URGENT, RETRY, ROUTINE from just after the holder; from URGENT with no holder (R107). -/
def cycleFrom : Option Feed → List Feed
  | none => [.urgent, .retry, .routine]
  | some h => [feedNext h, feedNext (feedNext h), h]

/-- A feed of a level is live. -/
def liveAt (settings : PerFeed FeedSetting) (live : PerFeed Bool) (lv : Level) (f : Feed) : Bool :=
  feedGet live f && decide ((feedGet settings f).level = lv)

/-- The run remaining of a level, with a holder that is not live set to 0 (R107). -/
def runAfterLoss (live : PerFeed Bool) (holder : Option Feed) (run : PerFeed Nat) : PerFeed Nat :=
  match holder with
  | some h => if feedGet live h then run else feedPut run h 0
  | none => run

/-- The choice within a level (R107): the feed granted, the holder, and the run remaining. With no live feed the level
grants nothing; its holder stays named (log 9). -/
def levelChoose (settings : PerFeed FeedSetting) (live : PerFeed Bool) (lv : Level) (holder : Option Feed)
    (run : PerFeed Nat) : Option Feed × Option Feed × PerFeed Nat :=
  let run1 := runAfterLoss live holder run
  match holder with
  | some h =>
    if liveAt settings live lv h && decide (0 < feedGet run1 h) then (some h, some h, run1)
    else match (cycleFrom holder).find? (liveAt settings live lv) with
      | some g => (some g, some g, feedPut run1 g (feedGet settings g).run)
      | none => (none, some h, run1)
  | none =>
    match (cycleFrom none).find? (liveAt settings live lv) with
    | some g => (some g, some g, feedPut run1 g (feedGet settings g).run)
    | none => (none, none, run1)

/-- The arbiter's choice (R107): the HIGH level first, and the LOW level only when no HIGH feed is live (R108). -/
def arbiterChoose (settings : PerFeed FeedSetting) (live : PerFeed Bool) (a : Arbiter) : Option Feed × Arbiter :=
  match levelChoose settings live .high a.high a.run with
  | (some f, h, run) => (some f, { a with high := h, run := run })
  | (none, h, run) =>
    match levelChoose settings live .low a.low run with
    | (g, l, run1) => (g, { run := run1, high := h, low := l })

/-- One item taken from a feed (R108). -/
def arbiterCount (a : Arbiter) (f : Feed) : Arbiter := { a with run := feedPut a.run f (feedGet a.run f - 1) }

/-- The arbiter chooses the feed of a composition's next message, from the cursors as they stand (R107). -/
def State.chooseFeed (s : State) (c : Composition) : State :=
  match arbiterChoose s.unit.setup.feeds (liveFeeds s.store.cursors) s.claims.arbiter with
  | (f, a) => s.withClaims { s.claims with arbiter := a, slot := .composing { c with chosen := f } }

/-- The cursor of a feed has moved because its message left the list. When the walk is staying with that feed and its
cursor is now END, the arbiter makes a new choice at once (R107). -/
def State.cursorMoved (s : State) (f : Feed) : State :=
  match s.claims.slot with
  | .composing c => if c.chosen = some f ∧ feedGet s.store.cursors f = none then s.chooseFeed c else s
  | _ => s

/-! ### Due lists and cursors (R69 to R71) -/

/-- The due list of a key. -/
def State.dueList (s : State) (key : Nat) : List Nat := tableGet s.store.due [] key

/-- Writes a due list. Its links stand in the message records; its head and tail are written where one of them changes,
and not when a message leaves from between them (R69, R70). -/
def State.putDue (s : State) (key : Nat) (l : List Nat) : State :=
  let s1 := s.withStore { s.store with due := tableSet s.store.due [] key l }
  if l.head? = (s.dueList key).head? ∧ l.getLast? = (s.dueList key).getLast? then s1 else s1.rewrite [.dueList key]

/-- Writes a walk cursor. -/
def State.putCursor (s : State) (f : Feed) (c : Option Nat) : State :=
  s.withStore { s.store with cursors := feedPut s.store.cursors f c }

/-- Joins a message to the tail of a feed's list at its subscriber's home window (R69), behind the tail so far. A walk's
cursor at END names the joiner (R71); a join of one of the claim window's lists is a wake event (R103). -/
def State.joinDue (s : State) (slot : Nat) (f : Feed) : State :=
  match s.msg slot with
  | none => s
  | some m =>
    let w := (s.sub m.subIndex).homeWindow
    let l := s.dueList (dueKey w f)
    let s1 := ((s.putDue (dueKey w f) (l ++ [slot])).putMsg slot { m with feed := some f }).relink [l.getLast?]
    let s2 := if s.walks w && (feedGet s.store.cursors f).isNone then s1.putCursor f (some slot) else s1
    s2.wakeAt w

/-- Takes a message off its due list, if it is on one, joining its neighbours (R70). A walk's cursor that names it moves
to its successor (R71), and where that is END for the feed the walk stays with, the arbiter chooses anew (R107). -/
def State.leaveDue (s : State) (slot : Nat) : State :=
  match s.msg slot with
  | none => s
  | some m =>
    match m.feed with
    | none => s
    | some f =>
      let w := (s.sub m.subIndex).homeWindow
      let l := s.dueList (dueKey w f)
      let s1 := ((s.putDue (dueKey w f) (l.erase slot)).putMsg slot { m with feed := none }).relink
        [prevIn slot l, nextIn slot l]
      if s.walks w && decide (feedGet s.store.cursors f = some slot) then
        (s1.putCursor f (nextIn slot l)).cursorMoved f
      else s1

/-! ### The outstanding table (R122 to R124) -/

/-- The entry of a message's slot. -/
def State.entryOf (s : State) (slot : Nat) : Option Entry := s.tracker.entries.find? (fun e => e.slot = slot)

/-- The entry of a key. -/
def State.entryAt (s : State) (tag seq : Nat) : Option Entry :=
  s.tracker.entries.find? (fun e => e.tag = tag ∧ e.seq = seq)

/-- The reservation of a message's slot. -/
def State.reservationOf (s : State) (slot : Nat) : Option Reservation :=
  s.tracker.reservations.find? (fun r => r.slot = slot)

/-- The key stands in the table, in an entry or a reservation (R105). -/
def State.keyHeld (s : State) (tag seq : Nat) : Bool :=
  s.tracker.entries.any (fun e => e.tag = tag ∧ e.seq = seq) ||
    s.tracker.reservations.any (fun r => r.tag = tag ∧ r.seq = seq)

/-- Removes the entry of a message's slot, if there is one, and reports it (R124). -/
def State.removeEntry (s : State) (slot : Nat) : State :=
  match s.entryOf slot with
  | none => s
  | some _ =>
    (s.withTracker { s.tracker with
      entries := s.tracker.entries.filter (fun e => e.slot ≠ slot),
      deadlines := s.tracker.deadlines.filter (fun d => d ≠ slot) }).wake

/-- Releases the reservation of a message's slot, if there is one, and reports it (R123, R124). -/
def State.releaseReservation (s : State) (slot : Nat) : State :=
  match s.reservationOf slot with
  | none => s
  | some _ =>
    (s.withTracker { s.tracker with
      reservations := s.tracker.reservations.filter (fun r => r.slot ≠ slot) }).wake

/-- Writes the state of the entry of a slot. -/
def setEntryState (slot : Nat) (st : EntryState) (es : List Entry) : List Entry :=
  es.map (fun e => if e.slot = slot then { e with state := st } else e)

/-- Creates a BETWEEN entry under a message's key, as the RECOVERY sweep does (R141). -/
def State.addBetween (s : State) (slot : Nat) (m : Msg) : State :=
  s.withTracker { s.tracker with
    entries := s.tracker.entries ++ [⟨(s.sub m.subIndex).airTag, m.seq, slot, .between⟩] }

end Sys2Proof.Machine
end

