-- ==== Sys2Proof/Machine/Charging.lean ====
section
/-! DEFINITION. Charges, holds and settlement (spec/08), and the release of a finished message's slot (R76 to R79). -/

namespace Sys2Proof.Machine

/-! ### The charge (R146) -/

/-- Character charge: ceil(c × r / 16). -/
def charCharge (rate c : Nat) : Nat := ceilDiv (c * rate) 16

/-- Surcharge of an URGENT page: the subtotal times the percent, rounded half up. -/
def surcharge (percent subtotal : Nat) : Nat := (subtotal * percent + 50) / 100

/-- The charge for `c` characters under a basis, at a priority (R146). -/
def chargeFor (b : Basis) (p : Priority) (c : Nat) : Nat :=
  let subtotal := b.base + charCharge b.rate c
  match p with
  | .routine => subtotal
  | .urgent => subtotal + surcharge b.percent subtotal

/-! ### What a settlement charges for (R150) -/

/-- The parts charged for. -/
def chargedMask (m : Msg) (ending : Ending) : PartMask :=
  match ending with
  | .sentBlind => allParts m.counts.length
  | _ => m.held

/-- The character counts of the parts in a mask, the first count being that of the part of 0-based place `p`. -/
def countsIn (mask : PartMask) : Nat → List Nat → List Nat
  | _, [] => []
  | p, c :: cs => if hasPart mask p then c :: countsIn mask (p + 1) cs else countsIn mask (p + 1) cs

/-- The charged characters (R150). -/
def chargedChars (m : Msg) (ending : Ending) : Nat := (countsIn (chargedMask m ending) 0 m.counts).sum

/-- The actual charge A (R150): 0 where no part is charged for. -/
def actualCharge (m : Msg) (ending : Ending) : Nat :=
  if countsIn (chargedMask m ending) 0 m.counts = [] then 0
  else chargeFor m.basis m.priority (chargedChars m ending)

/-! ### Accounts (R149, R151, R152, R158) -/

/-- The low-balance watch after a change that lifts a prepaid balance or leaves it (R158): it is armed above the
threshold and else stays, armed too where a bad byte has armed it there (DESIGN CHOICE, unsafe: log 47). -/
def rearm (r : Subscriber) : Subscriber := if r.threshold < r.balance then { r with armed := true } else r

/-- A settled prepaid account (R151): the balance rises by E − A and the held total falls by E. By R148 the refund needs
no bound; where a bad byte has broken that law, the balance grows past 24 bits as a number (DESIGN CHOICE, unsafe: log
44). -/
def settlePrepaid (r : Subscriber) (hold charge : Nat) : Subscriber :=
  rearm { r with balance := r.balance + (hold - charge), held := r.held - hold }

/-- A bank with one settled message added, each counter saturating (R152). -/
def bankAdd (b : Bank) (chars sends charge : Nat) : Bank :=
  { messages := min Config.max16 (b.messages + 1),
    characters := min Config.max24 (b.characters + chars),
    sends := min Config.max16 (b.sends + sends),
    charge := min 4294967295 (b.charge + charge) }

/-- The subscriber record after a message's settlement: PREPAID under R151, POSTPAID under R152. -/
def settleSub (r : Subscriber) (selector : BankId) (m : Msg) (ending : Ending) : Subscriber :=
  match m.basis.plan with
  | .prepaid => settlePrepaid r m.hold (actualCharge m ending)
  | .postpaid =>
    putBank r selector (bankAdd (bankOf r selector) (chargedChars m ending) m.sends (actualCharge m ending))

/-- The settlement of a message, given the subscriber record it left (R76). -/
def settlementOf (after : Subscriber) (m : Msg) (ending : Ending) : Settlement :=
  { chars := chargedChars m ending, charge := actualCharge m ending,
    balance := match m.basis.plan with
      | .prepaid => some after.balance
      | .postpaid => none }

/-- A deposit's hold (R149): the balance falls by E and the held total rises by E, past 24 bits where a bad byte has
broken the law of R148 (DESIGN CHOICE, unsafe: log 44). -/
def holdSub (r : Subscriber) (e : Nat) : Subscriber := { r with balance := r.balance - e, held := r.held + e }

/-- Applies a hold, with the low-balance watch (R149, R158). An armed watch over a balance already at or below the
threshold, which a bad byte alone gives, stays armed with no record (DESIGN CHOICE, unsafe: log 47). -/
def State.applyHold (s : State) (index number e : Nat) : State :=
  let r := s.sub index
  let r1 := holdSub r e
  if r.threshold < r.balance ∧ r1.balance ≤ r.threshold ∧ r.armed = true then
    ((s.putSub index { r1 with armed := false }).enqueue (.lowBalance number r1.balance r.threshold)).bump .lowBalances
  else s.putSub index (rearm r1)

/-! ### USAGE, OUTCOME and the release of the slot -/

/-- The USAGE record's fields (R76). -/
def usageOf (m : Msg) (ending : Ending) (finished : Serial) (st : Settlement) : Usage :=
  { number := m.number, seq := m.seq, accepted := m.accepted, finished := finished, ending := ending,
    priority := m.priority, parts := m.counts.length, held := m.held, chars := st.chars, sends := m.sends,
    charge := st.charge, hold := m.hold, plan := m.basis.plan, tariffClass := m.basis.tariffClass,
    balance := st.balance }

/-- The OUTCOME notice's fields (R79). -/
def outcomeOf (m : Msg) (ending : Ending) (finished : Serial) (st : Settlement) : NoticeBody :=
  .outcome m.tag m.number m.seq ending m.counts.length m.aired m.held m.sends st.charge finished

/-- The release of a slot whose USAGE record has entered the queue (R78): the OUTCOME notice, the unlinking from the
pending list, whose neighbours are joined (R25), the record written FREE with its slot at the front of the pool, and the
report to the Intake Unit. -/
def State.release (s : State) (slot : Nat) (m : Msg) (outcome : NoticeBody) : State :=
  let s1 := s.addNotice m.origin outcome
  let r := s1.sub m.subIndex
  let s2 := (s1.putSub m.subIndex { r with pendingList := r.pendingList.erase slot }).relink
    [prevIn slot r.pendingList, nextIn slot r.pendingList]
  let s3 := (s2.withStore { s2.store with
    msgs := tableErase s2.store.msgs slot, pool := poolPush s2.store.pool slot }).rewrite [.message slot, .pool]
  s3.withIntake { s3.intake with runDue := true }

/-- The USAGE record of a settled message, which is read, enters the queue and its slot is released (R77, R78). -/
def State.queueUsage (s : State) (slot : Nat) : State :=
  (match s.msg slot with
  | some m =>
    match m.state, m.settlement with
    | .finishing ending finished _, some st =>
      (s.enqueue (.usage (usageOf m ending finished st))).release slot m (outcomeOf m ending finished st)
    | _, _ => s
  | none => s).noteReads [.message slot]

/-- A settled message offers its USAGE record at once when there is room and nobody waits; otherwise it joins the
finishing wait list (R77). -/
def State.offerUsage (s : State) (slot : Nat) : State :=
  (if s.roomFor 1 && s.store.waitList.isEmpty then s.queueUsage slot
  else ((s.withStore { s.store with waitList := s.store.waitList ++ [slot] }).rewrite [.waitList]).relink
    [s.store.waitList.getLast?]).noteReads [.waitList, .pointers]

/-- What a settlement reads beside the message and the account: the current bank's selector, for POSTPAID (R152). -/
def settleReads (m : Msg) : List StorePlace :=
  match m.basis.plan with
  | .prepaid => []
  | .postpaid => [.period]

/-- Settlement of a FINISHING message (R76): the charge, the account or the current bank, the settlement written into
the record at stage QUEUE, and the offer of its USAGE record. -/
def State.settle (s : State) (slot : Nat) : State :=
  match s.msg slot with
  | some m =>
    match m.state with
    | .finishing ending finished _ =>
      let r := settleSub (s.sub m.subIndex) s.queue.selector m ending
      let s1 := s.putSub m.subIndex r
      let s2 := s1.putMsg slot { m with
        state := .finishing ending finished .queue, settlement := some (settlementOf r m ending) }
      (s2.offerUsage slot).noteReads (settleReads m)
    | _ => s
  | none => s

end Sys2Proof.Machine
end

