-- ==== Sys2Proof/Machine/Finishing.lean ====
section
/-! DEFINITION. Requests on a message record: FINISHING (R74, R75), revert (R65), the Claim Builder's abandonment
(R111), and the carried send (R66, R125 to R127). -/

namespace Sys2Proof.Machine

/-! ### Entering FINISHING -/

/-- Steps 1 to 3 of R74, on a message not FINISHING: the outcome and finishing serial, the removal of the outstanding
entry, and the leaving of the due list. The current window serial is read from store (R84, R182). -/
def State.enterFinishing (s : State) (slot : Nat) (m : Msg) (ending : Ending) : State :=
  let stage : Stage := if m.link.isSome then .claim else .queue
  (((s.putMsg slot { m with state := .finishing ending s.clock.serial stage }).removeEntry slot).leaveDue slot).noteReads
    [.serial]

/-- FINISHING of a message that no claim names: straight to settlement (R74, step 4). -/
def State.finishUnlinked (s : State) (slot : Nat) (m : Msg) (ending : Ending) : State :=
  (s.enterFinishing slot m ending).settle slot

/-! ### Revert (R65, R66, R75) -/

/-- The state a CLAIMED message returns to. -/
def preState : PreClaim → MsgState
  | .queued => .queued
  | .resting nb => .resting nb

/-- The revert of R65: the claim link becomes absent; a CLAIMED message returns to its state before claim, or finishes
CANCELLED if it carries the recall mark (R66); a message at stage CLAIM goes on to settlement (R75). A QUEUED or RESTING
message whose link a revert clears is a wake event (R103). -/
def State.revert (s : State) (slot : Nat) : State :=
  match s.msg slot with
  | none => s
  | some m =>
    let m1 := { m with link := none }
    match m.state with
    | .queued => (s.putMsg slot m1).wakeAt (s.sub m.subIndex).homeWindow
    | .resting _ => (s.putMsg slot m1).wakeAt (s.sub m.subIndex).homeWindow
    | .claimed before =>
      if m.recallMark then s.finishUnlinked slot m1 .cancelled
      else (s.putMsg slot { m1 with state := preState before }).wakeAt (s.sub m.subIndex).homeWindow
    | .awaiting => s.putMsg slot m1
    | .finishing _ _ .claim => (s.putMsg slot m1).settle slot
    | .finishing _ _ .queue => s.putMsg slot m1

/-! ### Abandonment (R110, R111) -/

/-- An item of a composition, of a spill or of a void: its reservation is released and it is reverted. -/
def State.dropItem (s : State) (i : Item) : State :=
  ((if i.first then s.releaseReservation i.slot else s).revert i.slot).noteReads (s.readsOf i.slot)

/-- A CLAIM of the engine's that is on the medium has been abandoned: the withdrawal is too late (R5, R113). -/
def OnAir.abandon : OnAir → OnAir
  | .claim _ => .claim true
  | o => o

/-- What an abandonment does to a composition or prepared claim (R111): its items are reverted, in item order (log 36),
the arbiter and the blocked set are put back, a prepared claim is withdrawn, and the slot becomes IDLE, at which R103
tests. -/
def State.abandonWork (s : State) (c : Composition) : State :=
  let s1 := c.items.foldl State.dropItem s
  let s2 := s1.withClaims { s1.claims with
    arbiter := c.savedArbiter, blocked := s1.claims.blocked.take c.savedBlocked, slot := .idle, startTest := true }
  s2.withSpan { s2.span with onAir := s2.span.onAir.map OnAir.abandon }

/-- Abandonment of whatever composition or prepared claim there is (R110, R111). CLAIMS_WITHDRAWN counts prepared
claims. -/
def State.abandon (s : State) : State :=
  match s.claims.slot with
  | .composing c => s.abandonWork c
  | .prepared c => (s.abandonWork c).bump .claimsWithdrawn
  | _ => s

/-! ### FINISHING, as any block asks for it (R74) -/

/-- The request for FINISHING with an outcome (R74), with what is to be done once the message has entered FINISHING and
before its settlement or the Claim Builder's reaction (R59). It is refused on a FINISHING message. A QUEUED or RESTING
message whose claim link is present is named by a composition or prepared claim, which the Claim Builder abandons
(R110); a CLAIMED one waits at stage CLAIM (R75). The link's presence alone decides: where a bad byte makes it present
on a message that nothing took, whatever composition or prepared claim there is is abandoned and the message waits at
stage CLAIM, and where it makes it absent on one that was taken, nothing is abandoned and the message is settled (DESIGN
CHOICE, unsafe: log 45). -/
def State.finishNoting (s : State) (slot : Nat) (ending : Ending) (note : State → State) : State :=
  match s.msg slot with
  | none => s
  | some m =>
    match m.state, m.link with
    | .finishing _ _ _, _ => s
    | _, none => (note (s.enterFinishing slot m ending)).settle slot
    | .queued, some _ => (note (s.enterFinishing slot m ending)).abandon
    | .resting _, some _ => (note (s.enterFinishing slot m ending)).abandon
    | _, some _ => note (s.enterFinishing slot m ending)

/-- The request for FINISHING with an outcome (R74). -/
def State.finish (s : State) (slot : Nat) (ending : Ending) : State := s.finishNoting slot ending id

/-! ### Requests that rest a message, or mark it sent -/

/-- A message becomes RESTING with a not-before serial and joins the tail of the RETRY list at its home window, leaving
any list it is on (R66, R67, R70). -/
def State.rest (s : State) (slot : Nat) (m : Msg) (notBefore : Serial) : State :=
  ((s.putMsg slot { m with state := .resting notBefore }).leaveDue slot).joinDue slot .retry

/-- The Sent request of R65. -/
def State.markSent (s : State) (i : Item) : State :=
  (match s.msg i.slot with
  | none => s
  | some m =>
    match m.link, m.state with
    | some _, .queued => s.putMsg i.slot { m with state := .claimed .queued }
    | some _, .resting nb => s.putMsg i.slot { m with state := .claimed (.resting nb) }
    | _, _ => s).noteReads [.message i.slot]

/-! ### A carried send (R66, R125 to R127) -/

/-- Step 1 of R66, made in every state: the parts aired, the send counted, the zone set kept, the claim link absent. -/
def addSend (m : Msg) (i : Item) : Msg :=
  { m with aired := m.aired ||| i.parts, sends := m.sends + 1, zones := some i.zones, link := none }

/-- The entry of a carried two-way message becomes WAITING (R126): a first send converts the reservation (R123), a later
send takes the BETWEEN entry. It joins the tail of the deadline list. Where a two-way flag or a reservation's slot has
read badly and there is neither a reservation nor an entry to take, the slot joins the deadline list with no entry, and
no deadline meets it (DESIGN CHOICE, unsafe: log 45). -/
def State.toWaiting (s : State) (i : Item) (deadline : Serial) : State :=
  let t := s.tracker
  let t1 : Tracker :=
    match i.first, s.reservationOf i.slot with
    | true, some r =>
      { t with reservations := t.reservations.filter (fun x => x.slot ≠ i.slot),
               entries := t.entries ++ [⟨r.tag, r.seq, i.slot, .waiting deadline⟩] }
    | _, _ => { t with entries := setEntryState i.slot (.waiting deadline) t.entries }
  s.withTracker { t1 with deadlines := t1.deadlines ++ [i.slot] }

/-- The serial a carried send's deadline falls at: t + 1 + the ack span (R126). -/
def State.deadlineOf (s : State) (t : Serial) : Serial := t + 1 + BitVec.ofNat 32 s.unit.setup.ackSpan

/-- The hand-off of a carried item of the window of serial `t` (R116): the Tracker chooses by the table of R125, and the
Message Store makes the request of R66, as one change. A hand-off that makes no entry releases the reservation it names
(R105, R123), whatever the message then reads as. In a state that R125 has no row for, step 1 of R66 alone is made. A
slot that then reads FREE has no message and takes no send (DESIGN CHOICE, unsafe: log 45). ITEMS_CARRIED is counted. -/
def State.carryItem (t : Serial) (s : State) (i : Item) : State :=
  let released := if i.first then s.releaseReservation i.slot else s
  ((match s.msg i.slot with
  | none => released
  | some m =>
    let m1 := addSend m i
    match m.state with
    | .finishing _ _ .claim => (released.putMsg i.slot m1).settle i.slot
    | .finishing _ _ .queue => released.putMsg i.slot m1
    | .claimed _ =>
      if m.recallMark then released.finishUnlinked i.slot m1 .cancelled
      else if (s.sub m.subIndex).twoWay then
        ((s.toWaiting i (s.deadlineOf t)).putMsg i.slot { m1 with state := .awaiting }).leaveDue i.slot
      else if m1.sends < (s.sub m.subIndex).repeatCount then released.rest i.slot m1 (t + 75)
      else released.finishUnlinked i.slot m1 .sentBlind
    | _ => released.putMsg i.slot m1).noteReads (s.readsOf i.slot)).bump .itemsCarried

/-- A spilled item (R117). -/
def State.spillItem (s : State) (i : Item) : State := (s.dropItem i).bump .itemsSpilled

end Sys2Proof.Machine
end

