-- ==== Sys2Proof/Machine/Composition.lean ====
section
/-! DEFINITION. The composition of a claim: cost and zones of a send (R96, R97), its start (R103), the walk (R104 to
R108) and its end (R109). -/

namespace Sys2Proof.Machine

/-! ### Cost and zones -/

/-- Body cells of a part of `n` characters (R96). -/
def bodyCells (k : Kind) (n : Nat) : Nat :=
  match k with
  | .text => ceilDiv n 3
  | .numeric => ceilDiv n 5
  | .tone => 0

/-- The parts a send includes: the message's parts less its held mask (R96). -/
def partsIncluded (m : Msg) : PartMask := allParts m.counts.length &&& ~~~ m.held

/-- The cost of a send in cells (R96). -/
def sendCost (m : Msg) : Nat :=
  1 + ((countsIn (partsIncluded m) 0 m.counts).map (fun n => 1 + bodyCells m.kind n)).sum

/-- All 16 zones. -/
def allZones : ZoneSet := 0xFFFF

/-- The zone set of a send before it meets the zones in service (R97). A last-heard zone that reads above 15 after a bad
byte has no mask in the neighbour table, and the model takes the empty set (DESIGN CHOICE, unsafe: log 45). -/
def zonesWanted (c : Setup) (r : Subscriber) (m : Msg) (serial : Serial) : ZoneSet :=
  match r.twoWay, r.lastHeard with
  | true, some l =>
    if serialDist serial l.serial ≤ c.freshSpan * 75 ∧ m.sends + 1 ≤ 2 then c.neighbours.getD l.zone 0 else allZones
  | _, _ => allZones

/-- The zone set of a send (R97). -/
def zonesOf (c : Setup) (r : Subscriber) (m : Msg) (w : WindowRec) : ZoneSet :=
  zonesWanted c r m w.serial &&& w.plan.zones

/-- An item fits (R106): in every zone of its set, the fill view, the tally and its cost are within the capacity. -/
def fits (fill tally caps : List Nat) (zones : ZoneSet) (cost : Nat) : Bool :=
  (List.range 16).all (fun z => !hasZone zones z || decide (zoneAt fill z + zoneAt tally z + cost ≤ zoneAt caps z))

/-- Adds a cost to the counters of the zones of a set. -/
def addCost (l : List Nat) (zones : ZoneSet) (cost : Nat) : List Nat :=
  zoneList (fun z => if hasZone zones z then zoneAt l z + cost else zoneAt l z)

/-- A message has passed its lifetime at a serial (R72). -/
def pastLifetime (c : Setup) (m : Msg) (serial : Serial) : Bool :=
  decide (c.lifetime * 75 ≤ serialDist serial m.accepted)

/-! ### The start of a composition (R103) -/

/-- The walk cursor at the head of a list, or END. -/
def State.headCursor (s : State) (window : Nat) (f : Feed) : Option Nat := (s.dueList (dueKey window f)).head?

/-- The three due lists of a window number (R69, R185). -/
def dueListsOf (window : Nat) : List StorePlace :=
  [.dueList (dueKey window .urgent), .dueList (dueKey window .retry), .dueList (dueKey window .routine)]

/-- Starts a composition for a window (R103): the arbiter and the blocked set's length are saved, the items and the
tally are empty, and the cursors stand at the heads of the three lists, which are read. -/
def State.startComposition (s : State) (w : WindowRec) : State :=
  let c : Composition :=
    { items := [], tally := zonesZero, savedArbiter := s.claims.arbiter, savedBlocked := s.claims.blocked.length,
      chosen := none }
  let s1 := s.withClaims { s.claims with slot := .composing c }
  (s1.withStore { s1.store with
    cursors := ⟨s.headCursor w.air.window .urgent, s.headCursor w.air.window .retry,
                s.headCursor w.air.window .routine⟩ }).noteReads (dueListsOf w.air.window)

/-- The conditions of R103 hold for an OPEN window. -/
def State.mayCompose (s : State) (w : WindowRec) : Bool :=
  decide (s.clock.state = .tracking) && decide (s.claims.slot = .idle ∨ s.claims.slot = .waiting) &&
    decide (w.sent < Config.claimCap)

/-- Tests R103's conditions at the end of a change within which one of its moments came (log 19). -/
def State.testStart (s : State) : State :=
  if s.claims.startTest then
    let s1 := s.withClaims { s.claims with startTest := false }
    match s1.claims.openWin with
    | some w => if s1.mayCompose w then s1.startComposition w else s1
    | none => s1
  else s

/-! ### One message of the walk (R104 to R106) -/

/-- What the table of R104 says of a message. -/
inductive Verdict where
  | pass
  | expire
  | block
  | clash
  | full
  | take (i : Item)
deriving DecidableEq, Repr

/-- The rows of R104 from zone set to taking, for a message whose first send, if it is one, can be admitted. A
reservation made and released within the step leaves no trace, so it is made at the taking alone (log 10). -/
def State.judgeFit (s : State) (c : Composition) (w : WindowRec) (slot : Nat) (m : Msg) (first : Bool) : Verdict :=
  let zones := zonesOf s.unit.setup (s.sub m.subIndex) m w
  if zones = 0 then .block
  else if fits s.claims.fill c.tally w.plan.caps zones (sendCost m) then
    .take { slot := slot, parts := partsIncluded m, zones := zones, cost := sendCost m, first := first }
  else .block

/-- A message is QUEUED or RESTING. -/
def claimable (m : Msg) : Bool :=
  match m.state with
  | .queued => true
  | .resting _ => true
  | _ => false

/-- A message is RESTING with a not-before serial above a serial (R104). -/
def notDue (m : Msg) (serial : Serial) : Bool :=
  match m.state with
  | .resting nb => serialAbove nb serial
  | _ => false

/-- The first row of R104's table that matches a message of a feed. -/
def State.judge (s : State) (c : Composition) (w : WindowRec) (f : Feed) (slot : Nat) (m : Msg) : Verdict :=
  let r := s.sub m.subIndex
  if !claimable m || m.link.isSome then .pass
  else if (m.subIndex, f) ∈ s.claims.blocked then .pass
  else if pastLifetime s.unit.setup m w.serial then .expire
  else if notDue m w.serial then .pass
  else if r.twoWay && decide (m.sends = 0) then
    if s.keyHeld r.airTag m.seq then .clash
    else if s.tracker.entries.length + s.tracker.reservations.length < Config.outstandingCap then
      s.judgeFit c w slot m true
    else .full
  else s.judgeFit c w slot m false

/-- Adds a pair to the blocked set (R104). -/
def State.blockSub (s : State) (index : Nat) (f : Feed) : State :=
  s.withClaims { s.claims with blocked := s.claims.blocked ++ [(index, f)] }

/-- Makes the reservation of a first send (R105, R123). -/
def State.reserve (s : State) (slot : Nat) (m : Msg) : State :=
  s.withTracker { s.tracker with
    reservations := s.tracker.reservations ++ [⟨(s.sub m.subIndex).airTag, m.seq, slot⟩] }

/-- Takes an item (R106): the message's claim link is set, its reservation made if it is a first send, and the item
joins the composition's list and tally; the arbiter counts it (R108). -/
def State.takeItem (s : State) (c : Composition) (w : WindowRec) (f : Feed) (m : Msg) (i : Item) : State :=
  let s1 := s.putMsg i.slot { m with link := some ⟨w.serial, w.sent, c.items.length⟩ }
  let s2 := if i.first then s1.reserve i.slot m else s1
  s2.withClaims { s2.claims with
    arbiter := arbiterCount s2.claims.arbiter f,
    slot := .composing { c with
      items := c.items ++ [i], tally := addCost c.tally i.zones i.cost, chosen := none } }

/-- The walk goes on from a message passed over: it stays with its feed, or, at END, the arbiter makes a new choice at
once (R107). -/
def State.stayWith (s : State) (c : Composition) (f : Feed) : State :=
  if (feedGet s.store.cursors f).isSome then
    s.withClaims { s.claims with slot := .composing { c with chosen := some f } }
  else s.chooseFeed c

/-- Deals with a message of the walk as R104 says. -/
def State.treatMessage (s : State) (c : Composition) (w : WindowRec) (f : Feed) (slot : Nat) (m : Msg) : State :=
  match s.judge c w f slot m with
  | .pass => s.stayWith c f
  | .expire => (s.finish slot .expired).stayWith c f
  | .block => (s.blockSub m.subIndex f).stayWith c f
  | .clash => ((s.blockSub m.subIndex f).bump .tagClashes).stayWith c f
  | .full => ((s.blockSub m.subIndex f).latch .outstandingFull).stayWith c f
  | .take i => s.takeItem c w f m i

/-- The feed the walk takes its next message from: the one it stays with, or at a boundary the arbiter's choice
(R107). -/
def State.walkFeed (s : State) (c : Composition) : Option Feed × Arbiter :=
  match c.chosen with
  | some f =>
    if (feedGet s.store.cursors f).isSome then (some f, s.claims.arbiter)
    else arbiterChoose s.unit.setup.feeds (liveFeeds s.store.cursors) s.claims.arbiter
  | none => arbiterChoose s.unit.setup.feeds (liveFeeds s.store.cursors) s.claims.arbiter

/-- Gives the walk the message at a feed's cursor and moves the cursor to its successor (R71). -/
def State.giveNext (s : State) (window : Nat) (f : Feed) (slot : Nat) : State :=
  s.putCursor f (nextIn slot (s.dueList (dueKey window f)))

/-- One step of the walk (R104). A composition that holds 16 items, or has no live feed, has ended (R109) and makes no
step. -/
def State.composeStep (s : State) : State :=
  match s.claims.slot, s.claims.openWin with
  | .composing c, some w =>
    if Config.claimCap ≤ c.items.length then s
    else match s.walkFeed c with
      | (some f, a) =>
        match feedGet s.store.cursors f with
        | some slot =>
          let s1 := (s.withClaims { s.claims with arbiter := a }).giveNext w.air.window f slot
          (match s1.msg slot with
          | some m => s1.treatMessage c w f slot m
          | none => s1.stayWith c f).noteReads (s.readsOf slot)
        | none => s
      | (none, _) => s
  | _, _ => s

/-- The end of a composition (R109): at 16 items, or when the arbiter finds no live feed, it prepares a CLAIM, or leaves
the slot WAITING when it has no item. At 16 items the arbiter makes no further choice and stays as it stood: R107 makes
each item taken a boundary at which it decides, R109 ends the composition at that one, and neither says whether it still
decides there, and so whether a holder that is not live has its run set to 0 (DESIGN CHOICE, unsafe: log 43). With fewer
items and a live feed the composition has not ended: a message that joined a list after the arbiter found no
live feed and before this command makes its feed live again, and the composition goes on with it (DESIGN CHOICE, unsafe:
log 40). -/
def State.composeEnd (s : State) : State :=
  match s.claims.slot with
  | .composing c =>
    if Config.claimCap ≤ c.items.length then s.withClaims { s.claims with slot := .prepared c }
    else match arbiterChoose s.unit.setup.feeds (liveFeeds s.store.cursors) s.claims.arbiter with
      | (none, a) =>
        s.withClaims { s.claims with
          arbiter := a, slot := if c.items.isEmpty then .waiting else .prepared c }
      | (some _, _) => s
  | _ => s

end Sys2Proof.Machine
end

