-- ==== Sys2Proof/Machine/Intake.lean ====
section
/-! DEFINITION. The Intake Unit: shaping (R44 to R46), performing (R43, R47, R48), the delayed deposit table (R40 to
R42, R50, R51), and RECALL (R54 to R59). -/

namespace Sys2Proof.Machine

/-! ### Shaping -/

/-- A shaped deposit (R44 to R46): the kind sent, the flags, the characters kept and the count of each part. -/
structure Shaped where
  kind : Kind
  flags : Flags
  chars : List Byte
  counts : List Nat
deriving DecidableEq, Repr

/-- No flag set. -/
def noFlags : Flags := ⟨false, false, false⟩

/-- A pager shows a kind (R44). -/
def shows (pager kind : Kind) : Bool :=
  match pager, kind with
  | .text, _ => true
  | .numeric, .text => false
  | .numeric, _ => true
  | .tone, .tone => true
  | .tone, _ => false

/-- The kind sent, and whether DEGRADED is set (R44). -/
def kindSent (pager kind : Kind) (count : Nat) : Kind × Bool :=
  if kind ≠ .tone ∧ count = 0 then (.tone, false)
  else if shows pager kind then (kind, false)
  else (.tone, true)

/-- A character a NUMERIC message keeps (R45): digits, space, '-', '(', ')', '*', '#'. -/
def numericKeeps (c : Byte) : Bool :=
  decide ((48 ≤ c.toNat ∧ c.toNat ≤ 57) ∨ c.toNat = 32 ∨ c.toNat = 45 ∨ c.toNat = 40 ∨ c.toNat = 41 ∨ c.toNat = 42 ∨
    c.toNat = 35)

/-- A character a TEXT message keeps (R45). -/
def textKeeps (c : Byte) : Bool := decide (32 ≤ c.toNat ∧ c.toNat ≤ 126)

/-- One character clamped to the set its kind can carry (R45). -/
def clampChar (kind : Kind) (c : Byte) : Byte :=
  match kind with
  | .numeric => if numericKeeps c then c else 32
  | .text => if textKeeps c then c else 63
  | .tone => c

/-- Character counts of the parts of `n` characters, at most `fuel` parts of 32 (R46). -/
def partCounts : Nat → Nat → List Nat
  | 0, _ => []
  | fuel + 1, n => if n = 0 then [] else if n ≤ 32 then [n] else 32 :: partCounts fuel (n - 32)

/-- A deposit's body shaped for a pager (R44 to R46). `count` is the character count as sent. -/
def shapeFor (pager : Kind) (maxParts : Nat) (l : Latched) : Shaped :=
  match kindSent pager l.kind l.count with
  | (.tone, degraded) => { kind := .tone, flags := ⟨degraded, false, false⟩, chars := [], counts := [0] }
  | (kind, degraded) =>
    let first := l.chars.take 256
    let clamped := first.map (clampChar kind)
    let kept := clamped.take (maxParts * 32)
    { kind := kind,
      flags := ⟨degraded, decide (clamped ≠ first), decide (256 < l.count ∨ kept.length < clamped.length)⟩,
      chars := kept, counts := partCounts 8 kept.length }

/-! ### Answers (R49) -/

/-- An ANSWER that carries no shape. -/
def plainAnswer (tag number : Nat) (code : AnswerCode) (reason : Reason) : Answer :=
  { tag := tag, number := number, code := code, reason := reason, seq := 0, flags := noFlags, kind := .tone, parts := 0,
    kept := 0, hold := 0, recorded := false }

/-- An ANSWER that carries the shape and E. -/
def shapedAnswer (tag number : Nat) (code : AnswerCode) (reason : Reason) (seq : Nat) (h : Shaped) (e : Nat) : Answer :=
  { tag := tag, number := number, code := code, reason := reason, seq := seq, flags := h.flags, kind := h.kind,
    parts := h.counts.length, kept := h.chars.length, hold := e, recorded := false }

/-! ### Performing (R43, R47, R48) -/

/-- The first refusal check that applies (R43). -/
def State.refusal (s : State) (r : Subscriber) : Option Reason :=
  match r.state with
  | .vacant => some .vacant
  | .stopped => some .stopped
  | .active =>
    if !s.charge.set then some .noTariff
    else if r.pendingLimit ≤ r.pendingList.length then some .listFull
    else none

/-- The charge basis of a deposit (R147). -/
def State.basisFor (s : State) (r : Subscriber) : Basis :=
  let t := tableGet s.charge.active ⟨0, 0, 0⟩ r.tariffClass
  { base := t.base, rate := t.rate, percent := t.percent, plan := r.plan, tariffClass := r.tariffClass }

/-- The feed of a priority (R48). -/
def feedOf : Priority → Feed
  | .urgent => .urgent
  | .routine => .routine

/-- The message record of an accepted deposit (R48, step 2). -/
def State.newMsg (s : State) (d : Delayed) (r : Subscriber) (h : Shaped) (basis : Basis) (e : Nat) : Msg :=
  { state := .queued, subIndex := d.index, number := d.number, seq := r.nextSeq, priority := d.latched.priority,
    kind := h.kind, flags := h.flags, origin := d.origin, tag := d.tag, accepted := s.clock.serial, counts := h.counts,
    chars := h.chars, aired := 0, held := 0, sends := 0, zones := none, link := none, feed := none,
    recallMark := false, basis := basis, hold := e, settlement := none }

/-- The acceptance of a deposit into a slot, as one change (R48). The accepted serial is read from store (R84, R182). A
pool front that a bad byte makes a slot in use, or one above 8,191, is taken as any other (DESIGN CHOICE, unsafe: log
47). -/
def State.accept (s : State) (slot : Nat) (d : Delayed) (h : Shaped) (basis : Basis) (e : Nat) : State :=
  let r := s.sub d.index
  let m := s.newMsg d r h basis e
  let s1 := (s.withStore { s.store with pool := poolPop s.store.pool, msgs := tablePut s.store.msgs slot m }).rewrite
    ([.pool, .message slot] ++ (List.range h.chars.length).map (StorePlace.character slot))
  let s2 := s1.putSub d.index { r with nextSeq := (r.nextSeq + 1) % 64 }
  let s3 := match r.plan with
    | .prepaid => s2.applyHold d.index d.number e
    | .postpaid => s2
  let r3 := s3.sub d.index
  let s4 := (s3.putSub d.index { r3 with pendingList := r3.pendingList ++ [slot] }).relink [r3.pendingList.getLast?]
  (s4.joinDue slot (feedOf d.latched.priority)).noteReads [.serial]

/-- What the performing of a deposit reads of the store: the subscriber record; for an ACTIVE one the tariff state; and
for a deposit that is priced the active entry of its class (R43, R142, R147). -/
def State.performReads (s : State) (d : Delayed) : List StorePlace :=
  let r := s.sub d.index
  .subscriber d.index :: (if r.state = .active then [.tariffs] else []) ++
    (if s.refusal r = none then [.active r.tariffClass] else [])

/-- The checks on a deposit, and its acceptance or refusal (R43 to R48), with its ANSWER (R49). -/
def State.judgeDeposit (s : State) (d : Delayed) : State × Answer :=
  let r := s.sub d.index
  match s.refusal r with
  | some reason => (s, plainAnswer d.tag d.number .refused reason)
  | none =>
    let h := shapeFor r.pager r.maxParts d.latched
    let basis := s.basisFor r
    let e := chargeFor basis d.latched.priority h.chars.length
    if r.plan = .prepaid ∧ r.balance < e then
      (s, shapedAnswer d.tag d.number .refused .noCredit 0 h e)
    else
      match poolFront s.store.pool with
      | some slot => (s.accept slot d h basis e, shapedAnswer d.tag d.number .accepted .none r.nextSeq h e)
      | none => (s, plainAnswer d.tag d.number .refused .busy)

/-- Performs a deposit (R43 to R48) and gives its ANSWER (R49). -/
def State.perform (s : State) (d : Delayed) : State × Answer :=
  match s.judgeDeposit d with
  | (s1, a) => (s1.noteReads (s.performReads d), a)

/-! ### DEPOSIT (R39 to R42) -/

/-- The kind a byte codes (section 1.8). -/
def kindOfByte (b : Byte) : Kind := if b.toNat = 0 then .tone else if b.toNat = 1 then .numeric else .text

/-- The priority a byte codes (section 1.8). -/
def priorityOfByte (b : Byte) : Priority := if b.toNat = 1 then .urgent else .routine

/-- A DEPOSIT as the Intake Unit keeps it (R40): at most the first 256 characters, and the count as sent. -/
def delayedOf (src index : Nat) (b : DepositBody) : Delayed :=
  { origin := src, tag := b.tag.toNat, number := b.number.toNat, index := index,
    latched := { priority := priorityOfByte b.priority, kind := kindOfByte b.kind, count := b.chars.length,
                 chars := b.chars.take 256 },
    status := .pending }

/-- An entry is of this origin and deposit tag (R41). -/
def isOf (origin tag : Nat) (d : Delayed) : Bool := decide (d.origin = origin ∧ d.tag = tag)

/-- An entry is PENDING. -/
def isPending (d : Delayed) : Bool := decide (d.status = .pending)

/-- The free slots number more than the hold mark and the queue holds fewer than the high mark (R42, R50). -/
def State.clearToPerform (s : State) : Bool :=
  decide (s.unit.setup.holdMark < poolCount s.store.pool) && decide (s.occupancy < s.unit.setup.highMark)

/-- A hold condition holds for a new deposit (R42). -/
def State.mustHold (s : State) (d : Delayed) : Bool :=
  !s.clearToPerform ||
    s.intake.table.any (fun x => isPending x && decide (x.origin = d.origin ∧ x.number = d.number))

/-- What the hold conditions read of the store: the free count and the occupancy (R42, R50). -/
def holdReads : List StorePlace := [.pool, .pointers]

/-- A new deposit: held, refused BUSY, or performed at once (R42). -/
def State.newDeposit (s : State) (d : Delayed) : State :=
  (if s.mustHold d then
    if s.intake.table.length < Config.delayedCap then
      (s.withIntake { s.intake with table := s.intake.table ++ [d] }).addNotice d.origin
        (.answer (plainAnswer d.tag d.number .hold .none))
    else s.addNotice d.origin (.answer (plainAnswer d.tag d.number .refused .busy))
  else
    match s.perform d with
    | (s1, a) => s1.addNotice d.origin (.answer a)).noteReads holdReads

/-- A taken DEPOSIT (R39, R41). One that an entry of the table answers reads nothing of the store. -/
def State.takeDeposit (s : State) (src : Nat) (b : DepositBody) : State :=
  match s.decode b.number.toNat with
  | none => s
  | some index =>
    match s.intake.table.find? (isOf src b.tag.toNat) with
    | some x =>
      match x.status with
      | .pending => s.addNotice src (.answer (plainAnswer x.tag x.number .hold .none))
      | .complete a _ =>
        (s.withIntake { s.intake with
          table := s.intake.table.filter (fun d => !isOf src b.tag.toNat d) }).addNotice src
            (.answer { a with recorded := true })
    | none => s.newDeposit (delayedOf src index b)

/-! ### The run (R50) and the discard (R51) -/

/-- The oldest PENDING entry performed: it becomes COMPLETE with its answer, and its discard timer starts (R50). -/
def State.performEntry (s : State) (d : Delayed) : State :=
  match s.perform d with
  | (s1, a) =>
    s1.withIntake { s1.intake with
      table := s1.intake.table.map (fun x =>
        if isOf d.origin d.tag x then
          { x with status := .complete a (s1.now + s1.unit.setup.discardTime * 1000) }
        else x) }

/-- The run of R50, at most `fuel` entries: while there is a PENDING entry the marks are read, and within them the
oldest is performed. -/
def State.runEntries : Nat → State → State
  | 0, s => s
  | fuel + 1, s =>
    match s.intake.table.find? isPending with
    | some d =>
      if s.clearToPerform then State.runEntries fuel ((s.performEntry d).noteReads holdReads)
      else s.noteReads holdReads
    | none => s

/-- The run that a report starts (R50): the report is spent, and PENDING entries are performed oldest first. -/
def State.delayedRun (s : State) : State :=
  if s.intake.runDue then
    let s1 := s.withIntake { s.intake with runDue := false }
    State.runEntries s1.intake.table.length s1
  else s

/-- The entry of an origin and tag is COMPLETE: the moment its discard timer runs out. -/
def State.discardAt (s : State) (origin tag : Nat) : Option Nat :=
  match s.intake.table.find? (isOf origin tag) with
  | some d =>
    match d.status with
    | .complete _ t => some t
    | .pending => none
  | none => none

/-- The discard timer of an entry runs out (R51). -/
def State.discard (s : State) (origin tag : Nat) : State :=
  match s.discardAt origin tag with
  | some t =>
    ((s.advance t).withIntake { s.intake with
      table := s.intake.table.filter (fun d => !isOf origin tag d) }).bump .discardedCompletions
  | none => s

/-! ### RECALL (R54 to R59) -/

/-- The message of a slot has a sequence. -/
def State.hasSeq (s : State) (seq slot : Nat) : Bool :=
  match s.msg slot with
  | some m => decide (m.seq = seq)
  | none => false

/-- The slots that the walk of R54 comes to, from the head of a pending list: at most 16, up to the first whose message
has the sequence. -/
def State.walkSeq (s : State) (seq : Nat) : Nat → List Nat → List Nat
  | fuel + 1, slot :: rest => slot :: (if s.hasSeq seq slot then [] else s.walkSeq seq fuel rest)
  | _, _ => []

/-- The message of a pending list with a sequence: the first of at most 16 slots from its head (R54). A longer list is
met only where the store reads badly. -/
def State.findSeq (s : State) (l : List Nat) (seq : Nat) : Option Nat := (l.take Config.pendingCap).find? (s.hasSeq seq)

/-- A RECALL applied to the message it found (R55 to R57, R59). The RECALL ANSWER of a cancel is added once the message
has entered FINISHING, before its settlement. A second RECALL of a CLAIMED message finds its mark set and changes
nothing (R56). -/
def State.recallMsg (s : State) (src : Nat) (b : RecallBody) (slot : Nat) (m : Msg) : State :=
  let answer (code : RecallCode) (t : State) : State :=
    t.addNotice src (.recallAnswer b.number.toNat b.seq.toNat code m.held)
  match m.state with
  | .queued => s.finishNoting slot .cancelled (answer .cancelled)
  | .resting _ => s.finishNoting slot .cancelled (answer .cancelled)
  | .awaiting => s.finishNoting slot .cancelled (answer .cancelled)
  | .claimed _ => answer .noted (if m.recallMark then s else s.putMsg slot { m with recallMark := true })
  | .finishing _ _ _ => answer .tooLate s

/-- What a RECALL reads of the store: the subscriber record, and the message records its walk comes to (R54). -/
def State.recallReads (s : State) (index seq : Nat) : List StorePlace :=
  .subscriber index :: (s.walkSeq seq Config.pendingCap (s.sub index).pendingList).map StorePlace.message

/-- A taken RECALL (R54). -/
def State.takeRecall (s : State) (src : Nat) (b : RecallBody) : State :=
  match s.decode b.number.toNat with
  | none => s
  | some index =>
    let notFound := s.addNotice src (.recallAnswer b.number.toNat b.seq.toNat .notFound 0)
    (match s.findSeq (s.sub index).pendingList b.seq.toNat with
    | some slot =>
      match s.msg slot with
      | some m => s.recallMsg src b slot m
      | none => notFound
    | none => notFound).noteReads (s.recallReads index b.seq.toNat)

end Sys2Proof.Machine
end

