-- ==== Sys2Proof/Machine/Accounts.lean ====
section
/-! DEFINITION. The Charge Unit's frames: TARIFF STAGE (R143, R144), promotion (R145) and CREDIT (R153 to R156). -/

namespace Sys2Proof.Machine

/-- The entry a TARIFF STAGE writes. -/
def tariffOf (b : TariffBody) : TariffEntry := ⟨b.base.toNat, b.rate.toNat, b.percent.toNat⟩

/-- The mark of a class. -/
def classMark (c : Nat) : BitVec 8 := BitVec.ofNat 8 (2 ^ c)

/-- The entry of an unwritten class (R142). -/
def noTariff : TariffEntry := ⟨0, 0, 0⟩

/-- A TARIFF STAGE in UNSET (R143): the active entry is written and the class marked loaded; with all eight marked the
state becomes SET. -/
def tariffLoad (t : Tariffs) (c : Nat) (x : TariffEntry) : Tariffs :=
  let marks := t.loaded ||| classMark c
  { t with active := tableSet t.active noTariff c x, loaded := marks, set := decide (marks = 0xFF) }

/-- A TARIFF STAGE in SET (R144): the staged entry is written and the class marked staged. -/
def tariffStore (t : Tariffs) (c : Nat) (x : TariffEntry) : Tariffs :=
  { t with staged := tableSet t.staged noTariff c x, marks := t.marks ||| classMark c }

/-- A taken TARIFF STAGE (R143, R144): an entry is written, and the tariff state and marks are read and written. -/
def State.takeTariff (s : State) (b : TariffBody) : State :=
  let c := b.cls.toNat
  if s.charge.set then (s.withCharge (tariffStore s.charge c (tariffOf b))).rewrite [.staged c, .tariffs]
  else (s.withCharge (tariffLoad s.charge c (tariffOf b))).rewrite [.active c, .tariffs]

/-- One class promoted, if its staged mark is set (R145). -/
def promoteClass (t : Tariffs) (c : Nat) : Tariffs :=
  if t.marks.getLsbD c then
    { t with active := tableSet t.active noTariff c (tableGet t.staged noTariff c),
             marks := t.marks &&& ~~~ classMark c }
  else t

/-- The promotion of the staged table (R145). -/
def promote (t : Tariffs) : Tariffs := [0, 1, 2, 3, 4, 5, 6, 7].foldl promoteClass t

/-- The classes whose staged mark is set. -/
def stagedClasses (t : Tariffs) : List Nat := (List.range 8).filter t.marks.getLsbD

/-- The staged table promoted (R145): the marks and the staged entries marked are read, and the active entries and the
marks are written. With no class staged nothing is promoted and nothing is written: the marks are read alone. -/
def State.promoteTariffs (s : State) : State :=
  if stagedClasses s.charge = [] then s.noteReads [.tariffs]
  else ((s.withCharge (promote s.charge)).rewrite (.tariffs :: (stagedClasses s.charge).map StorePlace.active)).noteReads
    ((stagedClasses s.charge).map StorePlace.staged)

/-- The room a prepaid account has (R155). -/
def headroom (r : Subscriber) : Nat := Config.max24 - r.balance - r.held

/-- The result of a new credit (R155). -/
def creditResult (r : Subscriber) (amount : Nat) : CreditResult :=
  let applied := min amount (headroom r)
  { code := if amount - applied = 0 then .applied else .capped, applied := applied, excess := amount - applied,
    balance := r.balance + applied, held := r.held }

/-- The subscriber record after a new credit (R155, R158). -/
def creditSub (r : Subscriber) (tag amount : Nat) : Subscriber :=
  let x := creditResult r amount
  rearm { r with balance := x.balance, lastCredit := some (tag, x) }

/-- An answer to a CREDIT that touches no record (R153). -/
def refusedCredit (code : CreditCode) : CreditResult := ⟨code, 0, 0, 0, 0⟩

/-- A new credit applied (R155): CREDITS_APPLIED, and CREDIT_EXCESS when capped. -/
def State.applyCredit (s : State) (index tag amount : Nat) : State :=
  let r := s.sub index
  let s1 := (s.putSub index (creditSub r tag amount)).bump .creditsApplied
  if (creditResult r amount).excess = 0 then s1 else s1.bump .creditExcess

/-- A taken CREDIT (R153 to R156), addressed to the engine or to all. -/
def State.takeCredit (s : State) (src : Nat) (addressed : Bool) (b : CreditBody) : State :=
  let number := b.number.toNat
  let tag := b.tag.toNat
  let answer (t : State) (x : CreditResult) (recorded : Bool) : State :=
    t.addNotice src (.creditAnswer tag number x recorded)
  match s.decode number with
  | none => if addressed then answer s (refusedCredit .notOwned) false else s
  | some index =>
    let r := s.sub index
    let fresh := answer (s.applyCredit index tag b.amount.toNat) (creditResult r b.amount.toNat) false
    (match r.state, r.plan, r.lastCredit with
    | .vacant, _, _ => answer s (refusedCredit .vacant) false
    | _, .postpaid, _ => answer s (refusedCredit .notPrepaid) false
    | _, .prepaid, some (t, x) => if t = tag then answer (s.bump .creditsRepeated) x true else fresh
    | _, .prepaid, none => fresh).noteReads [.subscriber index]

end Sys2Proof.Machine
end

