-- ==== Sys2Proof/Machine/Records.lean ====
section
/-! DEFINITION. The Record Queue: departures and re-sending (R162 to R164), PERIOD CLOSE (R166, R167), the period sweep
(R168, R169), and the serving of the finishing wait list (R77). -/

namespace Sys2Proof.Machine

/-! ### Sending to the collector -/

/-- The head record leaves (R162, R163): the next record becomes head, READY, with the stall timer at 0; the departure
is reported to the Intake Unit, the Message Store and the period sweep. -/
def State.depart (s : State) : State :=
  let rest := s.queue.records.drop 1
  let s1 := (s.withQueue { s.queue with
    records := rest, head := (s.queue.head + 1) % Config.queueCap,
    send := if rest.isEmpty then none else some .ready,
    stallFrom := if rest.isEmpty then none else some s.now,
    sweep := s.queue.sweep.map (fun w => { w with paused := false }) }).rewrite [.pointers]
  ((s1.withIntake { s1.intake with runDue := true }).withStore { s1.store with serveDue := true }).bump .recordsTaken

/-- The head record was not taken (R163): RECORD_RESENDS, and a re-send gap of 500 ms. -/
def State.recordUnanswered (s : State) : State :=
  (s.withQueue { s.queue with send := some (.gap (s.now + Config.resendMs)) }).bump .recordResends

/-- The report of the slot after the head record (R14, R163). -/
def State.recordSlot (s : State) (dominant : Bool) : State :=
  match s.span.onAir with
  | some .record =>
    let s1 := s.withSpan { s.span with onAir := none }
    if dominant then s1.depart else s1.recordUnanswered
  | _ => s

/-- The re-send timer runs out (R163). -/
def State.resendExpiry (s : State) : State :=
  match s.queue.send with
  | some (.gap t) => (s.advance t).withQueue { s.queue with send := some .ready }
  | _ => s

/-- The stall timer reaches 60 s (R164). -/
def State.stallExpiry (s : State) : State :=
  match s.queue.stallFrom with
  | some t =>
    let s1 := s.advance (t + Config.stallMs)
    (s1.withQueue { s1.queue with stallFrom := some (t + Config.stallMs) }).latch .recordsStalled
  | none => s

/-! ### Billing periods -/

/-- An accepted PERIOD CLOSE (R167), with the promotion of the staged tariff (R145). -/
def State.acceptClose (s : State) (period : Nat) : State :=
  (((s.withQueue { s.queue with
      selector := otherBank s.queue.selector, period := some period, sweep := some ⟨0, 0, false⟩ }).rewrite
    [.period]).promoteTariffs).bump .closesAccepted

/-- A taken PERIOD CLOSE (R166). -/
def State.takeClose (s : State) (period : Nat) : State :=
  (if s.queue.period = some period then s
  else if s.queue.sweep.isSome then s.bump .closesIgnored
  else s.acceptClose period).noteReads [.period]

/-- The period number a total carries: 0 when none is held (R36, R161). -/
def State.periodField (s : State) : Nat := s.queue.period.getD 0

/-- A record is due a total (R168). -/
def dueTotal (selector : BankId) (r : Subscriber) : Bool :=
  decide (r.state ≠ .vacant) && decide (r.plan = .postpaid) &&
    (decide (r.mark ≠ selector) || bankUsed (bankOf r (otherBank selector)))

/-- Writes the sweep, which stands in the period state (R165). -/
def State.putSweep (s : State) (w : Option Sweep) : State := (s.withQueue { s.queue with sweep := w }).rewrite [.period]

/-- Pauses the sweep where it is (R168): what stands in store of it does not change. -/
def State.pauseSweep (s : State) (w : Sweep) : State :=
  s.withQueue { s.queue with sweep := some { w with paused := true } }

/-- The sweep's total of a due record (R168). -/
def State.sweepTotal (s : State) (w : Sweep) (r : Subscriber) : State :=
  let closing := otherBank s.queue.selector
  let s1 := s.enqueue (.periodTotal (s.numberOf w.next) s.periodField .closed false (bankOf r closing))
  (s1.putSub w.next { putBank r closing Bank.zero with mark := s.queue.selector }).putSweep
    (some { next := w.next + 1, count := w.count + 1, paused := false })

/-- What a step of the sweep reads of the store: the period state, the record, and for a record due the occupancy. -/
def State.sweepReads (s : State) (w : Sweep) : List StorePlace :=
  [.period, .subscriber w.next] ++ (if dueTotal s.queue.selector (s.sub w.next) then [.pointers] else [])

/-- One step of the period sweep (R168). A paused sweep steps again once a departure has resumed it. -/
def State.sweepStep (s : State) : State :=
  match s.queue.sweep with
  | some w =>
    if w.paused || decide (Config.subCount ≤ w.next) then s
    else
      let r := s.sub w.next
      (if !dueTotal s.queue.selector r then s.putSweep (some { w with next := w.next + 1 })
      else if s.occupancy < s.unit.setup.highMark then s.sweepTotal w r
      else s.pauseSweep w).noteReads (s.sweepReads w)
  | none => s

/-- The end of the period sweep (R169). -/
def State.sweepEnd (s : State) : State :=
  match s.queue.sweep with
  | some w =>
    if w.paused || decide (w.next < Config.subCount) then s
    else
      (if s.occupancy < s.unit.setup.highMark then
        (s.enqueue (.periodDone s.periodField w.count)).putSweep none
      else s.pauseSweep w).noteReads [.period, .pointers]
  | none => s

/-! ### The finishing wait list (R77) -/

/-- Offers records from the head of the wait list while the queue has room, at most `fuel` of them. -/
def State.serveWaiters : Nat → State → State
  | 0, s => s
  | fuel + 1, s =>
    match s.store.waitList with
    | slot :: rest =>
      if s.roomFor 1 then
        State.serveWaiters fuel (((s.withStore { s.store with waitList := rest }).rewrite [.waitList]).queueUsage slot)
      else s
    | [] => s

/-- The Message Store's reaction to a departure report (R77): the report is spent. -/
def State.serveWaitList (s : State) : State :=
  if s.store.serveDue then
    let s1 := s.withStore { s.store with serveDue := false }
    (State.serveWaiters s1.store.waitList.length s1).noteReads [.waitList, .pointers]
  else s

end Sys2Proof.Machine
end

