-- ==== Sys2Proof/Machine/Subscribers.lean ====
section
/-! DEFINITION. The Subscriber Table's LOAD (R30 to R37) and the repeat count walk (R128). -/

namespace Sys2Proof.Machine

/-! ### Fields of a LOAD -/

/-- Every field of a SET lies in its record range (R30, section 2.4). -/
def loadInRange (b : LoadBody) : Bool :=
  decide (b.state.toNat ≤ 1) && decide (b.airTag.toNat ≤ 2097151) && decide (b.home.toNat ≤ 74) &&
    decide (b.pager.toNat ≤ 2) && decide (b.twoWay.toNat ≤ 1) &&
    decide (1 ≤ b.maxParts.toNat ∧ b.maxParts.toNat ≤ 8) &&
    decide (1 ≤ b.repeatCount.toNat ∧ b.repeatCount.toNat ≤ 3) && decide (b.plan.toNat ≤ 1) &&
    decide (b.tariffClass.toNat ≤ 7) && decide (1 ≤ b.pendingLimit.toNat ∧ b.pendingLimit.toNat ≤ 16)

/-- The plan a byte codes. -/
def planOfByte (b : Byte) : Plan := if b.toNat = 0 then .prepaid else .postpaid

/-- The state a byte codes. -/
def stateOfByte (b : Byte) : SubState := if b.toNat = 0 then .active else .stopped

/-- The state and every pager and account field from the frame (R31, R32). -/
def loadFields (r : Subscriber) (b : LoadBody) : Subscriber :=
  { r with
    state := stateOfByte b.state, airTag := b.airTag.toNat, homeWindow := b.home.toNat, pager := kindOfByte b.pager,
    twoWay := decide (b.twoWay.toNat = 1), maxParts := b.maxParts.toNat, repeatCount := b.repeatCount.toNat,
    plan := planOfByte b.plan, tariffClass := b.tariffClass.toNat, pendingLimit := b.pendingLimit.toNat,
    threshold := b.threshold.toNat }

/-- The watch as a LOAD sets it (R31, R32). -/
def loadWatch (r : Subscriber) : Subscriber :=
  { r with armed := decide (r.plan = .prepaid) && decide (r.threshold < r.balance) }

/-- The record a SET creates (R31). -/
def createdSub (selector : BankId) (b : LoadBody) : Subscriber :=
  let r := loadFields Subscriber.vacant b
  loadWatch { r with balance := if r.plan = .prepaid then b.opening.toNat else 0, mark := selector }

/-- The record a SET leaves in the place of an ACTIVE or STOPPED one (R32), its banks emptied beforehand where the plan
leaves POSTPAID. -/
def replacedSub (r : Subscriber) (b : LoadBody) : Subscriber :=
  let r1 := loadFields r b
  loadWatch { r1 with lastHeard := if r.airTag = b.airTag.toNat then r.lastHeard else none }

/-- A SET would change a locked field (R33). -/
def changesLocked (r : Subscriber) (b : LoadBody) : Bool :=
  decide (r.airTag ≠ b.airTag.toNat) || decide (r.homeWindow ≠ b.home.toNat) ||
    decide (r.pager ≠ kindOfByte b.pager) || decide (r.twoWay ≠ decide (b.twoWay.toNat = 1)) ||
    decide (r.maxParts ≠ b.maxParts.toNat) || decide (r.plan ≠ planOfByte b.plan)

/-- The least repeat count a message of the pending list allows (R33): its sends, or its sends plus 1 for a one-way
message that is CLAIMED. -/
def State.sendsFloor (s : State) (twoWay : Bool) (slot : Nat) : Nat :=
  match s.msg slot with
  | some m =>
    match m.state with
    | .claimed _ => if twoWay then m.sends else m.sends + 1
    | _ => m.sends
  | none => 0

/-- The slots that the walk of R33 comes to: at most 16 of the pending list. A longer list is met only where the store
reads badly. -/
def walkedSlots (r : Subscriber) : List Nat := r.pendingList.take Config.pendingCap

/-- A SET lowers the repeat count below what a pending message allows (R33). -/
def State.lowersBelowSends (s : State) (r : Subscriber) (b : LoadBody) : Bool :=
  decide (b.repeatCount.toNat < r.repeatCount) &&
    (walkedSlots r).any (fun slot => decide (b.repeatCount.toNat < s.sendsFloor r.twoWay slot))

/-! ### Emptying the banks (R36) -/

/-- The closing bank makes a FINAL total (R36). -/
def State.closingFinal (s : State) (index : Nat) (r : Subscriber) : Bool :=
  bankUsed (bankOf r (otherBank s.queue.selector)) ||
    (decide (r.mark ≠ s.queue.selector) && s.queue.sweep.any (fun w => decide (w.next ≤ index)))

/-- The FINAL totals of a record, the closing bank's first (R36). -/
def State.finalTotals (s : State) (index number : Nat) (r : Subscriber) : List RecordBody :=
  let closing := bankOf r (otherBank s.queue.selector)
  let current := bankOf r s.queue.selector
  (if s.closingFinal index r then [.periodTotal number s.periodField .closed true closing] else []) ++
    (if bankUsed current then [.periodTotal number s.periodField .opened true current] else [])

/-- The queue has room for the totals a record's emptying makes (R36). -/
def State.roomToEmpty (s : State) (index number : Nat) (r : Subscriber) : Bool :=
  s.roomFor (s.finalTotals index number r).length

/-- The sweep with a FINAL CLOSED total counted (R169, R170). -/
def countFinal (w : Sweep) : Sweep := { w with count := w.count + 1 }

/-- The FINAL totals enter the queue, and a closed one is counted in the sweep (R36, R169). -/
def State.queueFinals (s : State) (index number : Nat) (r : Subscriber) : State :=
  let s1 := (s.finalTotals index number r).foldl State.enqueue s
  match s.queue.sweep with
  | some w => if s.closingFinal index r then s1.putSweep (some (countFinal w)) else s1
  | none => s1

/-- A record with both banks zeroed. -/
def zeroBanks (r : Subscriber) : Subscriber := { r with bank0 := Bank.zero, bank1 := Bank.zero }

/-! ### The repeat count walk (R128) -/

/-- The walk's treatment of one message of a one-way subscriber. -/
def State.blindIfRepeated (newCount : Nat) (s : State) (slot : Nat) : State :=
  match s.msg slot with
  | some m =>
    match m.state with
    | .resting _ => if newCount ≤ m.sends then s.finish slot .sentBlind else s
    | _ => s
  | none => s

/-- The walk of the pending list (R128). -/
def State.repeatWalk (s : State) (r : Subscriber) (newCount : Nat) : State :=
  if r.twoWay then s else r.pendingList.foldl (State.blindIfRepeated newCount) s

/-! ### LOAD -/

/-- The LOAD ANSWER (R37), with the record's pending count and state as they stand. -/
def State.loadAnswer (s : State) (src index : Nat) (b : LoadBody) (code : LoadCode) (reason : BusyReason)
    (released : Nat) : State :=
  s.addNotice src (.loadAnswer b.tag.toNat b.number.toNat code reason (s.sub index).pendingList.length released
    (s.sub index).state)

/-- A SET on an ACTIVE or STOPPED record carried out (R32, R33, R128). -/
def State.replaceSub (s : State) (index : Nat) (r : Subscriber) (b : LoadBody) : State :=
  let leaves : Bool := decide (r.plan = .postpaid) && decide (planOfByte b.plan = .prepaid)
  let s1 := if leaves then s.queueFinals index b.number.toNat r else s
  let s2 := s1.putSub index (replacedSub (if leaves then zeroBanks r else r) b)
  if r.repeatCount = b.repeatCount.toNat then s2 else s2.repeatWalk r b.repeatCount.toNat

/-- A SET in range on an owned number (R31 to R34). -/
def State.loadSet (s : State) (src index : Nat) (b : LoadBody) : State :=
  let r := s.sub index
  if r.state = .vacant then
    (s.putSub index (createdSub s.queue.selector b)).loadAnswer src index b .done .none 0
  else if r.pendingList ≠ [] ∧ changesLocked r b = true then s.loadAnswer src index b .busy .pending 0
  else if s.lowersBelowSends r b then s.loadAnswer src index b .busy .sends 0
  else if r.plan = .postpaid ∧ planOfByte b.plan = .prepaid ∧ s.roomToEmpty index b.number.toNat r = false then
    s.loadAnswer src index b .busy .queueFull 0
  else (s.replaceSub index r b).loadAnswer src index b .done .none 0

/-- A VACATE on an owned number (R35). -/
def State.loadVacate (s : State) (src index : Nat) (b : LoadBody) : State :=
  let r := s.sub index
  if r.state = .vacant then s.loadAnswer src index b .done .none 0
  else if r.pendingList ≠ [] then s.loadAnswer src index b .busy .pending 0
  else
    match r.plan with
    | .prepaid => (s.putSub index Subscriber.vacant).loadAnswer src index b .done .none r.balance
    | .postpaid =>
      if s.roomToEmpty index b.number.toNat r then
        ((s.queueFinals index b.number.toNat r).putSub index Subscriber.vacant).loadAnswer src index b .done .none 0
      else s.loadAnswer src index b .busy .queueFull 0

/-- What a SET in range reads of the store beside the subscriber record: the period state at a creation (R31); nothing
where the lock refuses it (R34); the messages walked where the repeat count refuses it (R33); and where the SET passes
both, the period state and the occupancy if banks are emptied (R36), and the pending messages if the repeat count
changes (R33, R128). -/
def State.setReads (s : State) (index : Nat) (b : LoadBody) : List StorePlace :=
  let r := s.sub index
  if r.state = .vacant then [.period]
  else if r.pendingList ≠ [] ∧ changesLocked r b = true then []
  else if s.lowersBelowSends r b then (walkedSlots r).map StorePlace.message
  else
    (if r.plan = .postpaid ∧ planOfByte b.plan = .prepaid then [.period, .pointers] else []) ++
      (if r.repeatCount = b.repeatCount.toNat then [] else r.pendingList.map StorePlace.message)

/-- What a VACATE reads of the store beside the subscriber record: the period state and the occupancy, where it comes to
emptying a postpaid record's banks (R35, R36). -/
def vacateReads (r : Subscriber) : List StorePlace :=
  if r.state ≠ .vacant ∧ r.pendingList = [] ∧ r.plan = .postpaid then [.period, .pointers] else []

/-- What a LOAD reads of the store. -/
def State.loadReads (s : State) (index : Nat) (op : Byte) (b : LoadBody) : List StorePlace :=
  .subscriber index ::
    (if op.toNat = 0 ∧ loadInRange b = true then s.setReads index b
    else if op.toNat = 1 then vacateReads (s.sub index)
    else [])

/-- A taken LOAD (R30), addressed to the engine or to all. -/
def State.takeLoad (s : State) (src : Nat) (addressed : Bool) (op : Byte) (b : LoadBody) : State :=
  match s.decode b.number.toNat with
  | none =>
    if addressed then
      s.addNotice src (.loadAnswer b.tag.toNat b.number.toNat .notOwned .none 0 0 .vacant)
    else s
  | some index =>
    (if op.toNat = 0 then
      if loadInRange b then s.loadSet src index b else s.loadAnswer src index b .badField .none 0
    else if op.toNat = 1 then s.loadVacate src index b
    else s.loadAnswer src index b .badField .none 0).noteReads (s.loadReads index op b)

end Sys2Proof.Machine
end

