-- ==== Sys2Proof/Machine/Queries.lean ====
section
/-! DEFINITION. Queries (R183, R184). -/

namespace Sys2Proof.Machine

/-- An entry is WAITING. -/
def isWaiting (e : Entry) : Bool :=
  match e.state with
  | .waiting _ => true
  | .between => false

/-- Contents of a QUERY ANSWER of statistics (R184). -/
def State.statsView (s : State) : StatsView :=
  { engine := s.unit.engine, lastStart := s.unit.lastStart, causes := s.faults.causes, lastError := s.faults.lastError,
    stats := s.stats, freeCount := poolCount s.store.pool,
    pendingEntries := s.intake.table.countP isPending,
    completeEntries := s.intake.table.countP (fun d => !isPending d),
    notices := s.span.notices.length, entries := s.tracker.entries.length,
    reservations := s.tracker.reservations.length, waitingEntries := s.tracker.entries.countP isWaiting,
    occupancy := s.occupancy, waitList := s.store.waitList.length, period := s.queue.period,
    selector := s.queue.selector, sweep := s.queue.sweep, tariffs := s.charge }

/-- Every counter 0, every cause except SETUP_BAD clear, and the last error address absent (R183). -/
def State.clearStats (s : State) : State :=
  (s.withStats []).withFaults { s.faults with
    causes := { Causes.clear with setupBad := s.faults.causes.setupBad }, lastError := none }

/-- A QUERY ANSWER (R184). -/
def State.queryAnswer (s : State) (src tag : Nat) (kind : QueryKind) (c : QueryContents) : State :=
  s.addNotice src (.queryAnswer tag kind c)

/-- What a QUERY of statistics reads of the store: the free count, the wait list's length, the occupancy, the period
state and the tariffs (R184). -/
def statsReads : List StorePlace :=
  [.pool, .waitList, .pointers, .period, .tariffs] ++ (List.range 8).map StorePlace.active ++
    (List.range 8).map StorePlace.staged

/-- A taken QUERY of statistics (R183, R184): built from the state as it stands when the QUERY is taken, the bad parity
that its own reads find latched and counted beforehand (log 7), and added after any clearing. -/
def State.takeQueryStats (s : State) (src : Nat) (tag : Nat) (clear : Bool) : State :=
  let s1 := s.noteReads statsReads
  let view := s1.statsView
  (if clear then s1.clearStats else s1).queryAnswer src tag .stats (.stats view)

/-- The messages of a pending list as a QUERY of a subscriber gives them (R184). A slot that reads FREE after a bad byte
is left out (DESIGN CHOICE, unsafe: log 47). -/
def State.pendingView (s : State) (l : List Nat) : List (Nat × Nat × MsgState) :=
  l.filterMap (fun slot => (s.msg slot).map (fun m => (slot, m.seq, m.state)))

/-- A taken QUERY of a subscriber (R184), addressed to the engine or to all. -/
def State.takeQuerySub (s : State) (src : Nat) (addressed : Bool) (b : QueryBody) : State :=
  match s.decode b.arg.toNat with
  | none => if addressed then s.queryAnswer src b.tag.toNat .subscriber .notOwned else s
  | some index =>
    (s.queryAnswer src b.tag.toNat .subscriber
      (.subscriber index (s.sub index) (s.pendingView (s.sub index).pendingList))).noteReads
        (.subscriber index :: (s.sub index).pendingList.map StorePlace.message)

/-- The state of the outstanding entry of a slot (R184). -/
def State.entryView (s : State) (slot : Nat) : EntryView :=
  match s.entryOf slot, s.reservationOf slot with
  | some e, _ =>
    match e.state with
    | .waiting d => .waiting d
    | .between => .between
  | none, some _ => .reservation
  | none, none => .none

/-- The links of a message record (R62), read from the lists. -/
def State.linksOf (s : State) (slot : Nat) (m : Msg) : Links :=
  let due := match m.feed with
    | some f => s.dueList (dueKey (s.sub m.subIndex).homeWindow f)
    | none => []
  let pend := (s.sub m.subIndex).pendingList
  { duePrev := prevIn slot due, dueNext := nextIn slot due, pendPrev := prevIn slot pend, pendNext := nextIn slot pend,
    chain := nextIn slot s.store.waitList }

/-- The contents of a QUERY ANSWER of a message slot (R184). -/
def State.messageView (s : State) (slot : Nat) : QueryContents :=
  match s.msg slot with
  | some m => .message m (s.linksOf slot m) (s.entryView slot)
  | none => .freeSlot (poolNext s.store.pool slot)

/-- What a QUERY of a message reads of the store: its record and its characters (R184). -/
def State.messageReads (s : State) (slot : Nat) : List StorePlace :=
  .message slot ::
    (match s.msg slot with
    | some m => (List.range m.chars.length).map (StorePlace.character slot)
    | none => [])

/-- A taken QUERY of a message (R184). -/
def State.takeQueryMsg (s : State) (src : Nat) (b : QueryBody) : State :=
  (s.queryAnswer src b.tag.toNat .message (s.messageView b.arg.toNat)).noteReads (s.messageReads b.arg.toNat)

/-- The seven clock counters (R94). -/
def State.clockCounters (s : State) : ClockCounters :=
  { marksEarly := s.stat .marksEarly, marksLate := s.stat .marksLate, marksOutOfStep := s.stat .marksOutOfStep,
    marksMissed := s.stat .marksMissed, clockJumps := s.stat .clockJumps, clockAcquired := s.stat .clockAcquired,
    clockLosses := s.stat .clockLosses }

/-- The contents of a QUERY ANSWER of the clock at a moment (R84, R184): every field, the counters among them, and the
ages of the candidate and the held mark. -/
def State.clockView (s : State) (moment : Nat) : QueryContents :=
  .clock s.clock s.clockCounters (s.clock.candidate.map (fun c => moment - c.arrival))
    (s.clock.held.map (fun h => moment - h.arrival))

/-- A taken QUERY of the clock (R184), whose serial is in store (R84). -/
def State.takeQueryClock (s : State) (src : Nat) (e : Env) (b : QueryBody) : State :=
  (s.queryAnswer src b.tag.toNat .clock (s.clockView e.moment)).noteReads [.serial]

end Sys2Proof.Machine
end

