-- ==== Sys2Proof/Machine/Wire.lean ====
section
/-! DEFINITION. Bits of a frame on the Span (R2): the order of the fields, the check, the contention key; and bytes of
multi-byte fields, most significant byte first. -/

namespace Sys2Proof.Machine

/-- The low `w` bits of a number, most significant first (section 1.8). -/
def bitsOf : Nat → Nat → List Bool
  | 0, _ => []
  | w + 1, v => v.testBit w :: bitsOf w v

/-- The bytes of a number of `n` bytes, most significant first. -/
def bytesOf : Nat → Nat → List Byte
  | 0, _ => []
  | n + 1, v => BitVec.ofNat 8 (v / 256 ^ n) :: bytesOf n v

/-- The number that bytes stand for, most significant first. -/
def numOf (l : List Byte) : Nat := l.foldl (fun acc b => acc * 256 + b.toNat) 0

/-- One bit taken into the check register (R2): generator x^16 + x^12 + x^5 + 1. -/
def crcBit (r : BitVec 16) (b : Bool) : BitVec 16 :=
  if r.msb != b then (r <<< 1) ^^^ 0x1021 else r <<< 1

/-- The check over bits in the order sent: the register preset to all ones, sent without inversion (R2). -/
def crcOf (bits : List Bool) : BitVec 16 := bits.foldl crcBit 0xFFFF

/-- The bits a check covers (R2): from the first bit of the class to the last bit of the body. -/
def checkedBits (h : Header) (kind len : Nat) (body : List Byte) : List Bool :=
  bitsOf 3 h.cls.toNat ++ bitsOf 4 h.turn.toNat ++ bitsOf 5 h.src.toNat ++ bitsOf 5 h.dst.toNat ++ bitsOf 7 kind ++
    bitsOf 16 len ++ body.flatMap (fun b => bitsOf 8 b.toNat)

/-- The check of a frame (R2). -/
def checkOf (h : Header) (kind len : Nat) (body : List Byte) : BitVec 16 := crcOf (checkedBits h kind len body)

/-- A frame was cut short (R7): its line went idle before the declared body and the check had been received. -/
def frameShort (f : WireFrame) : Bool := f.cut || decide (f.body.length < f.len.toNat)

/-- The received check differs from the check computed over the frame (R7). -/
def checkFails (f : WireFrame) : Bool :=
  decide (f.check ≠ checkOf f.head f.kind.toNat f.len.toNat (f.body.take f.len.toNat))

/-- The body length field exceeds 2,048 (R8). -/
def frameTooLong (f : WireFrame) : Bool := decide (2048 < f.len.toNat)

/-- A frame of a header, a kind code and a body as it stands on the Span (R2): whole, with the length of its body in
bytes and the check over them. -/
def frameWith (h : Header) (kind : BitVec 7) (body : List Byte) : WireFrame :=
  let len := BitVec.ofNat 16 body.length
  { head := h, kind := kind, len := len, body := body, check := checkOf h kind.toNat len.toNat body, cut := false }

/-- The contention key read as one 12-bit number (section 1.2): class above turn above source. -/
def keyOf (cls turn src : Nat) : Nat := cls * 512 + turn * 32 + src

end Sys2Proof.Machine
end

