-- ==== Sys2Proof/Machine/Operands.lean ====
section
/-! DEFINITION. Bodies of the frame kinds the engine takes: their layouts read from bytes (section 1.8 and the reference
entries), and the form each must have (R11). -/

namespace Sys2Proof.Machine

/-- Frame kinds the engine takes (R10). -/
inductive TakenKind where
  | mark | report | claim | heard | deposit | recall | load | tariffStage | credit | periodClose | query | restart
deriving DecidableEq, Repr

/-- The kind of a kind code, for the kinds the engine takes (section 1.8, R9). -/
def kindOfCode (code : BitVec 7) : Option TakenKind :=
  match code.toNat with
  | 1 => some .mark
  | 2 => some .report
  | 8 => some .claim
  | 16 => some .heard
  | 32 => some .deposit
  | 33 => some .recall
  | 34 => some .load
  | 35 => some .tariffStage
  | 36 => some .credit
  | 37 => some .periodClose
  | 48 => some .query
  | 50 => some .restart
  | _ => none

/-- The class of a kind (section 1.2). -/
def classOfKind : TakenKind → Nat
  | .mark => 0
  | .report => 0
  | .claim => 1
  | .heard => 2
  | .deposit => 4
  | .recall => 4
  | .load => 4
  | .tariffStage => 4
  | .credit => 4
  | .periodClose => 4
  | .query => 6
  | .restart => 6

/-- The body of a frame of a kind the engine takes. -/
inductive Body where
  | mark (b : MarkBody)
  | report (b : ReportBody)
  | claim (b : ClaimBody)
  | heard (b : HeardBody)
  | deposit (b : DepositBody)
  | recall (b : RecallBody)
  | load (op : Byte) (b : LoadBody)
  | tariffStage (b : TariffBody)
  | credit (b : CreditBody)
  | periodClose (period : Byte)
  | query (kind : Byte) (b : QueryBody)
  | restart
deriving DecidableEq, Repr

/-- The kind of a body. -/
def kindOfBody : Body → TakenKind
  | .mark _ => .mark
  | .report _ => .report
  | .claim _ => .claim
  | .heard _ => .heard
  | .deposit _ => .deposit
  | .recall _ => .recall
  | .load _ _ => .load
  | .tariffStage _ => .tariffStage
  | .credit _ => .credit
  | .periodClose _ => .periodClose
  | .query _ _ => .query
  | .restart => .restart

/-! ### Form of the bodies (R11) -/

/-- An entry of a REPORT is in range. -/
def entryInRange (x : ReportEntry) : Bool :=
  decide (x.station.toNat ≤ 30) && decide (x.number.toNat ≤ 15) && decide (x.accepted.toNat ≤ 16)

/-- An item of a CLAIM is in range. -/
def itemInRange (x : ClaimItem) : Bool :=
  decide (x.tag.toNat ≤ 2097151) && decide (x.seq.toNat ≤ 63) && decide (2 ≤ x.cost.toNat ∧ x.cost.toNat ≤ 97) &&
    decide (x.zones ≠ 0) && decide (x.parts ≠ 0)

/-- The argument of a QUERY is in range for its kind (section 10.6). -/
def queryArgInRange (kind arg : Nat) : Bool :=
  if kind = 1 then decide (arg ≤ 16777215) else if kind = 2 then decide (arg ≤ 8191) else decide (arg = 0)

/-- Every field of the body lies in the range its layout or reference entry states, and its counts agree with it. -/
def bodyInRange : Body → Bool
  | .mark b => decide (b.caps.length = 16) && decide (b.window.toNat ≤ 74) && b.caps.all (fun c => decide (c.toNat ≤ 1023))
  | .report b => decide (b.entries.length ≤ 255) && decide (b.window.toNat ≤ 74) && b.entries.all entryInRange
  | .claim b =>
    decide (b.window.toNat ≤ 74) && decide (b.number.toNat ≤ 15) &&
      decide (1 ≤ b.items.length ∧ b.items.length ≤ 16) && b.items.all itemInRange
  | .heard b =>
    decide (b.tag.toNat ≤ 2097151) && decide (b.seq.toNat ≤ 63) && decide (b.zone.toNat ≤ 15) &&
      decide (b.grade.toNat ≤ 15)
  | .deposit b => decide (b.priority.toNat ≤ 1) && decide (b.kind.toNat ≤ 2) && decide (b.chars.length ≤ 2039)
  | .recall b => decide (b.seq.toNat ≤ 63)
  | .load _ _ => true
  | .tariffStage b => decide (b.cls.toNat ≤ 7) && decide (b.rate.toNat ≤ 4095)
  | .credit b => decide (1 ≤ b.amount.toNat)
  | .periodClose _ => true
  | .query k b =>
    decide (k.toNat ≤ 3) && decide (b.clear.toNat ≤ 1) && queryArgInRange k.toNat b.arg.toNat
  | .restart => true

/-- The turn is the claim number in a CLAIM and 0 in every other frame (R11). -/
def turnOk (turn : BitVec 4) : Body → Bool
  | .claim b => decide (turn.toNat = b.number.toNat)
  | _ => decide (turn = 0)

/-- A frame has the form of its kind (R11). -/
def formOk (h : Header) (b : Body) : Bool :=
  decide (h.cls.toNat = classOfKind (kindOfBody b)) && turnOk h.turn b && bodyInRange b

/-! ### Layouts read from bytes -/

/-- The 16-bit fields that follow one another in bytes. -/
def words16 : List Byte → List (BitVec 16)
  | a :: b :: rest => (a ++ b) :: words16 rest
  | _ => []

/-- Entries of a REPORT read from bytes; `none` when the bytes are not whole entries. -/
def readEntries : List Byte → Option (List ReportEntry)
  | [] => some []
  | a :: b :: c :: rest => (readEntries rest).map (fun l => ⟨a, b, c⟩ :: l)
  | _ => none

/-- Items of a CLAIM read from bytes; `none` when the bytes are not whole items. -/
def readItems : List Byte → Option (List ClaimItem)
  | [] => some []
  | a :: b :: c :: d :: e :: f :: g :: h :: rest =>
    (readItems rest).map (fun l => ⟨a ++ b ++ c, d, e, f ++ g, h⟩ :: l)
  | _ => none

/-- The body of a frame of a kind, read from its bytes by the kind's layout; `none` when the length is not the one the
layout gives for the counts inside the body (R11). -/
def readBody (k : TakenKind) (bytes : List Byte) : Option Body :=
  match k, bytes with
  | .mark, a :: b :: c :: rest =>
    if rest.length = 34 then
      some (.mark ⟨a ++ b, c, words16 (rest.take 32), rest.getD 32 0 ++ rest.getD 33 0⟩) else none
  | .report, a :: b :: c :: k :: rest =>
    match readEntries rest with
    | some l => if l.length = k.toNat then some (.report ⟨a ++ b, c, l⟩) else none
    | none => none
  | .claim, a :: b :: c :: d :: n :: rest =>
    match readItems rest with
    | some l => if l.length = n.toNat then some (.claim ⟨a ++ b, c, d, l⟩) else none
    | none => none
  | .heard, [a, b, c, d, e, f, g] => some (.heard ⟨a ++ b ++ c, d, e, f, g⟩)
  | .deposit, a :: b :: c :: d :: e :: p :: k :: m :: n :: rest =>
    if rest.length = (m ++ n).toNat then some (.deposit ⟨a ++ b, c ++ d ++ e, p, k, rest⟩) else none
  | .recall, [a, b, c, d] => some (.recall ⟨a ++ b ++ c, d⟩)
  | .load, [a, b, c, d, e, op, st, t0, t1, t2, hw, pk, tw, mp, rc, pl, tc, lim, o0, o1, o2, h0, h1, h2] =>
    some (.load op ⟨a ++ b, c ++ d ++ e, st, t0 ++ t1 ++ t2, hw, pk, tw, mp, rc, pl, tc, lim, o0 ++ o1 ++ o2,
      h0 ++ h1 ++ h2⟩)
  | .tariffStage, [c, a, b, d, e, p] => some (.tariffStage ⟨c, a ++ b, d ++ e, p⟩)
  | .credit, [a, b, c, d, e, f, g, h] => some (.credit ⟨a ++ b ++ c, d ++ e ++ f, g ++ h⟩)
  | .periodClose, [p] => some (.periodClose p)
  | .query, [a, b, k, c, w, x, y, z] => some (.query k ⟨a ++ b, c, w ++ x ++ y ++ z⟩)
  | .restart, [] => some .restart
  | _, _ => none

/-! ### Layouts written as bytes -/

/-- The kind code of a kind the engine takes (section 1.8). -/
def codeOfKind : TakenKind → BitVec 7
  | .mark => 1
  | .report => 2
  | .claim => 8
  | .heard => 16
  | .deposit => 32
  | .recall => 33
  | .load => 34
  | .tariffStage => 35
  | .credit => 36
  | .periodClose => 37
  | .query => 48
  | .restart => 50

/-- A two-byte field, most significant byte first. -/
def bytes16 (v : BitVec 16) : List Byte := [v.extractLsb' 8 8, v.extractLsb' 0 8]

/-- A three-byte field, most significant byte first. -/
def bytes24 (v : BitVec 24) : List Byte := [v.extractLsb' 16 8, v.extractLsb' 8 8, v.extractLsb' 0 8]

/-- A four-byte field, most significant byte first. -/
def bytes32 (v : BitVec 32) : List Byte :=
  [v.extractLsb' 24 8, v.extractLsb' 16 8, v.extractLsb' 8 8, v.extractLsb' 0 8]

/-- The bytes of one entry of a REPORT (section 1.8). -/
def entryBytes (x : ReportEntry) : List Byte := [x.station, x.number, x.accepted]

/-- The bytes of one item of a CLAIM (section 1.8). -/
def claimItemBytes (x : ClaimItem) : List Byte := bytes24 x.tag ++ [x.seq, x.cost] ++ bytes16 x.zones ++ [x.parts]

/-- The body bytes of a frame of a kind the engine takes, in the order of the kind's layout (section 1.8 and the
reference entries). -/
def bodyBytes : Body → List Byte
  | .mark b => bytes16 b.lap ++ [b.window] ++ b.caps.flatMap bytes16 ++ bytes16 b.zones
  | .report b => bytes16 b.lap ++ [b.window, BitVec.ofNat 8 b.entries.length] ++ b.entries.flatMap entryBytes
  | .claim b =>
    bytes16 b.lap ++ [b.window, b.number, BitVec.ofNat 8 b.items.length] ++ b.items.flatMap claimItemBytes
  | .heard b => bytes24 b.tag ++ [b.seq, b.held, b.zone, b.grade]
  | .deposit b =>
    bytes16 b.tag ++ bytes24 b.number ++ [b.priority, b.kind] ++ bytes16 (BitVec.ofNat 16 b.chars.length) ++ b.chars
  | .recall b => bytes24 b.number ++ [b.seq]
  | .load op b =>
    bytes16 b.tag ++ bytes24 b.number ++ [op, b.state] ++ bytes24 b.airTag ++
      [b.home, b.pager, b.twoWay, b.maxParts, b.repeatCount, b.plan, b.tariffClass, b.pendingLimit] ++
      bytes24 b.opening ++ bytes24 b.threshold
  | .tariffStage b => [b.cls] ++ bytes16 b.base ++ bytes16 b.rate ++ [b.percent]
  | .credit b => bytes24 b.number ++ bytes24 b.amount ++ bytes16 b.tag
  | .periodClose p => [p]
  | .query k b => bytes16 b.tag ++ [k, b.clear] ++ bytes32 b.arg
  | .restart => []

/-- A frame of a header and a body as it stands on the Span, whole and with the check of R2. -/
def frameOf (h : Header) (b : Body) : WireFrame := frameWith h (codeOfKind (kindOfBody b)) (bodyBytes b)

end Sys2Proof.Machine
end

