-- ==== Sys2Proof/Machine/SpanPort.lean ====
section
/-! DEFINITION. The Span Port: the tests on a frame heard (R7 to R13), the frames the engine sends (R2, R3,
section 1.8), the choice of the next frame and contention (R1 to R5, R15), the slot after the engine's own frames (R14,
R17), and send faults (R6). -/

namespace Sys2Proof.Machine

/-! ### Frames heard -/

/-- The stations a kind is taken from (R10). -/
def State.sourceListed (s : State) (k : TakenKind) (src : Nat) : Bool :=
  match k with
  | .mark => decide (src ∈ s.unit.setup.controllers)
  | .report => decide (src ∈ s.unit.setup.controllers)
  | .claim => true
  | .heard => true
  | .deposit => true
  | .recall => true
  | .load => decide (src = s.unit.setup.provisioning)
  | .tariffStage => decide (src = s.unit.setup.provisioning)
  | .credit => decide (src = s.unit.setup.collector)
  | .periodClose => decide (src = s.unit.setup.collector)
  | .query => decide (src = s.unit.setup.maintenance)
  | .restart => decide (src = s.unit.setup.maintenance)

/-- A frame is addressed to the engine's own station number. -/
def State.toSelf (s : State) (h : Header) : Bool := decide (h.dst.toNat = s.unit.setup.own)

/-- The header is malformed (R8), its length apart. -/
def headMalformed (h : Header) : Bool := decide (h.cls = 7) || decide (h.src = 31)

/-- The Span Port receives: SERVICE, and an idle gap has ended since it was entered (R13). -/
def State.listening (s : State) : Bool := s.serving && !s.span.waitingGap

/-- Writes whether the engine drives the acknowledgement slot of the frame being heard (R12). -/
def State.putAck (s : State) (driven : Bool) : State := s.withSpan { s.span with ackDriven := driven }

/-- A frame is heard at a moment: its acknowledgement slot is not driven unless it is taken. -/
def State.frameMoment (s : State) (e : Env) : State := (s.advance e.moment).putAck false

/-- What becomes of a frame of a kind the engine takes that has passed its check (R8 to R12): dropped and counted, not
taken, or taken, when `act` is the owner's reaction and R103 tests at its end. -/
def State.hear (s : State) (h : Header) (e : Env) (b : Body) (act : State → State) : State :=
  let s1 := s.frameMoment e
  if !s.listening then s1
  else if headMalformed h then s1.bump .framesMalformed
  else if !(s.toSelf h || decide (h.dst = 31)) then s1
  else if !s.sourceListed (kindOfBody b) h.src.toNat then s1.bump .framesMisdirected
  else if !formOk h b then s1.bump .framesMalformed
  else (act (s1.putAck (s.toSelf h))).testStart

/-! ### Layouts of the frames the engine sends -/

/-- The class of a notice (section 1.2). -/
def noticeClass (n : Notice) : Nat :=
  match n.body with
  | .queryAnswer _ _ _ => 6
  | _ => 3

/-- A yes or no in one byte. -/
def flagByte (b : Bool) : Byte := if b then 1 else 0

/-- The byte of a kind (section 1.8). -/
def kindByte : Kind → Byte
  | .tone => 0
  | .numeric => 1
  | .text => 2

/-- The byte of an outcome (section 1.8). -/
def endingByte : Ending → Byte
  | .delivered => 0
  | .partly => 1
  | .undelivered => 2
  | .expired => 3
  | .cancelled => 4
  | .sentBlind => 5

/-- The byte of an ANSWER's code (section 3.4). -/
def answerByte : AnswerCode → Byte
  | .accepted => 0
  | .hold => 1
  | .refused => 2

/-- The byte of an ANSWER's reason (section 3.4). -/
def reasonByte : Reason → Byte
  | .none => 0
  | .vacant => 1
  | .stopped => 2
  | .noTariff => 3
  | .listFull => 4
  | .noCredit => 5
  | .busy => 6

/-- The byte of flags: DEGRADED bit 0, CLAMPED bit 1, TRUNCATED bit 2 (section 3.4). -/
def flagsByte (f : Flags) : Byte :=
  (if f.degraded then 1 else 0) ||| (if f.clamped then 2 else 0) ||| (if f.truncated then 4 else 0)

/-- The byte of a RECALL ANSWER's code (section 3.7). -/
def recallByte : RecallCode → Byte
  | .cancelled => 0
  | .noted => 1
  | .tooLate => 2
  | .notFound => 3

/-- The byte of a CREDIT ANSWER's code (section 8.4). -/
def creditByte : CreditCode → Byte
  | .applied => 0
  | .capped => 1
  | .notPrepaid => 2
  | .vacant => 3
  | .notOwned => 4

/-- The byte of a subscriber state in a LOAD ANSWER (section 2.4). -/
def subStateByte : SubState → Byte
  | .vacant => 0
  | .active => 1
  | .stopped => 2

/-- The byte of a LOAD ANSWER's code: a free value (log 13). -/
def loadByte : LoadCode → Byte
  | .done => Config.loadCodeByte 0
  | .busy => Config.loadCodeByte 1
  | .badField => Config.loadCodeByte 2
  | .notOwned => Config.loadCodeByte 3

/-- The byte of a LOAD ANSWER's busy reason: a free value (log 13). -/
def busyByte : BusyReason → Byte
  | .none => Config.busyReasonByte 0
  | .pending => Config.busyReasonByte 1
  | .sends => Config.busyReasonByte 2
  | .queueFull => Config.busyReasonByte 3

/-- The byte of a plan (section 1.8). -/
def planByte : Plan → Byte
  | .prepaid => 0
  | .postpaid => 1

/-- The byte of a priority (section 1.8). -/
def priorityByte : Priority → Byte
  | .routine => 0
  | .urgent => 1

/-- The byte of a QUERY's kind (section 10.6). -/
def queryKindByte : QueryKind → Byte
  | .stats => 0
  | .subscriber => 1
  | .message => 2
  | .clock => 3

/-- The code of a QUERY ANSWER (section 10.6): 0 DONE, 1 NOT_OWNED. Its width of one byte is DEDUCED (log 13). -/
def queryCodeByte : QueryContents → Byte
  | .notOwned => 1
  | _ => 0

/-- The bytes of a QUERY ANSWER's contents: free values, so many that the body is at most 420 bytes, and none for
NOT_OWNED (section 10.6, R184, log 13). -/
def contentsBytes (c : QueryContents) : List Byte :=
  match c with
  | .notOwned => []
  | _ => (Config.queryAnswerBytes c).take 416

/-- The body of a notice, laid out as its reference entry says. -/
def noticeBytes : NoticeBody → List Byte
  | .answer a =>
    bytesOf 2 a.tag ++ bytesOf 3 a.number ++ [answerByte a.code, reasonByte a.reason] ++ bytesOf 1 a.seq ++
      [flagsByte a.flags, kindByte a.kind] ++ bytesOf 1 a.parts ++ bytesOf 2 a.kept ++ bytesOf 3 a.hold ++
      [flagByte a.recorded]
  | .recallAnswer number seq code held => bytesOf 3 number ++ bytesOf 1 seq ++ [recallByte code, held]
  | .outcome tag number seq ending parts aired held sends charge finished =>
    bytesOf 2 tag ++ bytesOf 3 number ++ bytesOf 1 seq ++ [endingByte ending] ++ bytesOf 1 parts ++ [aired, held] ++
      bytesOf 1 sends ++ bytesOf 3 charge ++ bytesOf 4 finished.toNat
  | .loadAnswer tag number code reason pending released state =>
    bytesOf 2 tag ++ bytesOf 3 number ++ [loadByte code, busyByte reason] ++ bytesOf 1 pending ++ bytesOf 3 released ++
      [subStateByte state]
  | .creditAnswer tag number x recorded =>
    bytesOf 2 tag ++ bytesOf 3 number ++ [creditByte x.code] ++ bytesOf 3 x.applied ++ bytesOf 3 x.excess ++
      bytesOf 3 x.balance ++ bytesOf 3 x.held ++ [flagByte recorded]
  | .queryAnswer tag kind contents =>
    bytesOf 2 tag ++ [queryKindByte kind, queryCodeByte contents] ++ contentsBytes contents

/-- The kind code of a notice (section 1.8). -/
def noticeCode : NoticeBody → Nat
  | .answer _ => 24
  | .recallAnswer _ _ _ _ => 25
  | .outcome _ _ _ _ _ _ _ _ _ _ => 26
  | .loadAnswer _ _ _ _ _ _ _ => 27
  | .creditAnswer _ _ _ _ => 28
  | .queryAnswer _ _ _ => 49

/-- The body of a charge record (sections 1.8 and 9.1). -/
def recordBytes (r : Record) : List Byte :=
  bytesOf 3 r.number ++
  match r.body with
  | .usage u =>
    bytesOf 3 u.number ++ bytesOf 1 u.seq ++ bytesOf 4 u.accepted.toNat ++ bytesOf 4 u.finished.toNat ++
      [endingByte u.ending, priorityByte u.priority] ++ bytesOf 1 u.parts ++ [u.held] ++ bytesOf 2 u.chars ++
      bytesOf 1 u.sends ++ bytesOf 3 u.charge ++ bytesOf 3 u.hold ++ [planByte u.plan] ++ bytesOf 1 u.tariffClass ++
      (match u.balance with
        | some b => bytesOf 3 b
        | none => [])
  | .periodTotal number period role final bank =>
    bytesOf 3 number ++ bytesOf 1 period ++ [if role = .closed then 0 else 1, flagByte final] ++
      bytesOf 2 bank.messages ++ bytesOf 3 bank.characters ++ bytesOf 2 bank.sends ++ bytesOf 4 bank.charge
  | .periodDone period count => bytesOf 1 period ++ bytesOf 2 count
  | .lowBalance number balance threshold => bytesOf 3 number ++ bytesOf 3 balance ++ bytesOf 3 threshold

/-- The kind code of a charge record (section 1.8). -/
def recordCode : RecordBody → Nat
  | .usage _ => 40
  | .periodTotal _ _ _ _ _ => 41
  | .periodDone _ _ => 42
  | .lowBalance _ _ _ => 43

/-- One item of the engine's CLAIM (section 1.8, R109): the air tag and sequence are those of the item's message. An
item whose slot reads FREE after a bad byte gives no bytes, while the item count still counts it (DESIGN CHOICE, unsafe:
log 48). -/
def State.itemBytes (s : State) (i : Item) : List Byte :=
  match s.msg i.slot with
  | some m =>
    bytesOf 3 (s.sub m.subIndex).airTag ++ bytesOf 1 m.seq ++ bytesOf 1 i.cost ++ bytesOf 2 i.zones.toNat ++ [i.parts]
  | none => []

/-- The body of the engine's CLAIM (R109). -/
def State.claimBytes (s : State) (w : WindowRec) (c : Composition) : List Byte :=
  bytesOf 2 w.air.lap ++ bytesOf 1 w.air.window ++ bytesOf 1 w.sent ++ bytesOf 1 c.items.length ++
    c.items.flatMap s.itemBytes

/-- A frame of the engine's: its class, its turn, the engine's own number as source, its destination, kind code and body
(R2, R3). -/
def State.ownFrame (s : State) (cls turn dst kind : Nat) (body : List Byte) : WireFrame :=
  frameWith ⟨BitVec.ofNat 3 cls, BitVec.ofNat 4 turn, BitVec.ofNat 5 s.unit.setup.own, BitVec.ofNat 5 dst⟩
    (BitVec.ofNat 7 kind) body

/-- The frame that a source gives the Span Port to send (R3, R15): notices to their station, records to the collector,
CLAIMs to all, with turn 0 but in a CLAIM, whose turn is its claim number. -/
def State.frameFor (s : State) (o : OnAir) : Option WireFrame :=
  match o with
  | .notice =>
    s.span.notices.head?.map (fun n => s.ownFrame (noticeClass n) 0 n.dest (noticeCode n.body) (noticeBytes n.body))
  | .record =>
    s.queue.records.head?.map (fun r => s.ownFrame 5 0 s.unit.setup.collector (recordCode r.body) (recordBytes r))
  | .claim _ =>
    match s.claims.slot, s.claims.openWin with
    | .prepared c, some w => some (s.ownFrame 1 w.sent 31 8 (s.claimBytes w c))
    | _, _ => none

/-- The frame on the medium (R5): the one laid out when its key was won, sent to its end whatever its owner does
meanwhile. -/
def State.frameOnAir (s : State) : Option WireFrame := if s.span.onAir.isSome then s.span.frame else none

/-! ### Sending -/

/-- The three sources of R15, of lowest class first where they offer: the frame chosen, its class and its turn. Whether
the record queue offers is on chip and does not follow a bad byte of its pointers: READY over a queue that reads as
empty contends with a frame of no bytes (DESIGN CHOICE, unsafe: log 48). -/
def State.offered (s : State) : Option (OnAir × Nat × Nat) :=
  let claim : Option (OnAir × Nat × Nat) :=
    match s.claims.slot, s.claims.openWin with
    | .prepared _, some w => some (.claim false, 1, w.sent)
    | _, _ => none
  let record : Option (OnAir × Nat × Nat) :=
    match s.queue.send with
    | some .ready => some (.record, 5, 0)
    | _ => none
  match claim, s.span.notices.head?, record with
  | some c, _, _ => some c
  | none, some n, none => some (.notice, noticeClass n, 0)
  | none, some n, some r => if noticeClass n < 5 then some (.notice, noticeClass n, 0) else some r
  | none, none, r => r

/-- The engine's key wins over the lowest rival key: the lowest key wins the medium (R4), and equal keys notice nothing
(R6, log 16). -/
def winsOver (key : Nat) : Option (BitVec 12) → Bool
  | none => true
  | some r => decide (key ≤ r.toNat)

/-- The key is won with the frame chosen (R5): the frame is committed as it stands, and a record's is made from the
bytes as they were read (R160). -/
def State.putOnAir (s : State) (o : OnAir) : State :=
  let s1 := s.withSpan { s.span with onAir := some o, frame := s.frameFor o }
  match o with
  | .record => s1.withQueue { s1.queue with send := some .onAir }
  | _ => s1

/-- What the laying out of a source's frame reads of the store: for a record the queue's head and its ring entry (R160),
for a CLAIM each item's message and its subscriber (R109); a notice is on chip. -/
def State.frameReads (s : State) : OnAir → List StorePlace
  | .notice => []
  | .record => [.pointers, .record (s.ringEntry 0)]
  | .claim _ =>
    match s.claims.slot with
    | .prepared c => c.items.flatMap (fun i => s.readsOf i.slot)
    | _ => []

/-- The end of an idle gap (R1, R13, R15): the receiver begins, and the Span Port contends with the frame of lowest
class. A frame that loses stays where it was (R5); it was laid out for the contention all the same (log 7). -/
def State.gapEnd (s : State) (e : Env) (rival : Option (BitVec 12)) : State :=
  if s.serving then
    let s1 := s.advance e.moment
    let s2 := s1.withSpan { s1.span with waitingGap := false }
    if s2.span.onAir.isSome then s2
    else
      match s2.offered with
      | some (o, cls, turn) =>
        let s3 := s2.noteReads (s.frameReads o)
        if winsOver (keyOf cls turn s.unit.setup.own) rival then s3.putOnAir o else s3
      | none => s2
  else s

/-- The head notice was sent and not acknowledged (R17): its attempt count rises, or at the third sending it leaves and
NOTICES_LOST is counted. -/
def State.noticeUnanswered (s : State) : State :=
  match s.span.notices with
  | n :: rest =>
    if n.attempts < 2 then s.withSpan { s.span with notices := { n with attempts := n.attempts + 1 } :: rest }
    else (s.withSpan { s.span with notices := rest }).bump .noticesLost
  | [] => s

/-- The slot after a notice (R14, R17). -/
def State.noticeSlot (s : State) (dominant : Bool) : State :=
  match s.span.onAir with
  | some .notice =>
    let s1 := s.withSpan { s.span with onAir := none }
    if dominant then s1.withSpan { s1.span with notices := s1.span.notices.drop 1 } else s1.noticeUnanswered
  | _ => s

/-- A send fault (R6): counted, and reported to the frame's source as a sending whose slot stayed recessive, or, for a
CLAIM, as a lost contention. -/
def State.sendFaulted (s : State) : State :=
  match s.span.onAir with
  | none => s
  | some o =>
    let s1 := (s.withSpan { s.span with onAir := none }).bump .sendFaults
    match o with
    | .notice => s1.noticeUnanswered
    | .record => s1.recordUnanswered
    | .claim _ => s1

end Sys2Proof.Machine
end

