-- ==== Sys2Proof/Machine/Start.lean ====
section
/-! DEFINITION. The Setup and Fault Unit: the setup block (section 10.1, R173, R174), cold reset (R176), warm restart
(R177), the RECOVERY sweep (R178, R179) and the FAULT line timer (R181). -/

namespace Sys2Proof.Machine

/-! ### The setup block -/

/-- The 128 bytes read over the setup line (R173, R186): a byte not answered reads as 255, a silent memory as 255
throughout, and a data line held low as 0 throughout. -/
def setupBytes : SetupLine → List Byte
  | .answers l => (List.range 128).map (fun i => (l.getD i none).getD 255)
  | .silent => List.replicate 128 255
  | .heldLow => List.replicate 128 0

/-- The number in the `n` bytes from a place. -/
def fieldAt (bytes : List Byte) (place n : Nat) : Nat := numOf ((bytes.drop place).take n)

/-- The number window k (bytes 7 + 5k to 11 + 5k). -/
def windowAt (bytes : List Byte) (k : Nat) : NumWindow := ⟨fieldAt bytes (7 + 5 * k) 3, fieldAt bytes (10 + 5 * k) 2⟩

/-- A feed's settings from the byte of its level on. -/
def feedAt (bytes : List Byte) (place : Nat) : FeedSetting :=
  ⟨if fieldAt bytes place 1 = 0 then .high else .low, fieldAt bytes (place + 1) 1⟩

/-- The neighbour mask of a zone, its own bit added (R173). -/
def neighbourAt (bytes : List Byte) (z : Nat) : ZoneSet :=
  BitVec.ofNat 16 (fieldAt bytes (42 + 2 * z) 2) ||| BitVec.ofNat 16 (2 ^ z)

/-- The listed air controllers: the second is read only when the count is 2. -/
def controllersOf (bytes : List Byte) : List Nat :=
  if fieldAt bytes 4 1 = 2 then [fieldAt bytes 5 1, fieldAt bytes 6 1] else [fieldAt bytes 5 1]

/-- The copy of the setup block (section 10.1). -/
def setupOf (bytes : List Byte) : Setup :=
  { own := fieldAt bytes 0 1, collector := fieldAt bytes 1 1, provisioning := fieldAt bytes 2 1,
    maintenance := fieldAt bytes 3 1, controllers := controllersOf bytes,
    windows := [windowAt bytes 0, windowAt bytes 1, windowAt bytes 2, windowAt bytes 3],
    ackSpan := fieldAt bytes 27 1, maxSends := fieldAt bytes 28 1, lifetime := fieldAt bytes 29 1,
    freshSpan := fieldAt bytes 30 1,
    feeds := ⟨feedAt bytes 31, feedAt bytes 33, feedAt bytes 35⟩,
    holdMark := fieldAt bytes 37 2, highMark := fieldAt bytes 39 2, discardTime := fieldAt bytes 41 1,
    neighbours := (List.range 16).map (neighbourAt bytes) }

/-- The sum at bytes 126 to 127 is that of bytes 0 to 125 modulo 65,536 (R174). -/
def sumOk (bytes : List Byte) : Bool :=
  decide (fieldAt bytes 126 2 = ((bytes.take 126).map BitVec.toNat).sum % 65536)

/-- A field lies in a range. -/
def within (bytes : List Byte) (place n lo hi : Nat) : Bool :=
  decide (lo ≤ fieldAt bytes place n ∧ fieldAt bytes place n ≤ hi)

/-- Every field that is read lies in the range of the table of section 10.1 (R174). -/
def fieldsOk (bytes : List Byte) : Bool :=
  within bytes 0 1 0 30 && within bytes 1 1 0 30 && within bytes 2 1 0 30 && within bytes 3 1 0 30 &&
    within bytes 4 1 1 2 && within bytes 5 1 0 30 && (fieldAt bytes 4 1 != 2 || within bytes 6 1 0 30) &&
    within bytes 10 2 0 32768 && within bytes 15 2 0 32768 && within bytes 20 2 0 32768 && within bytes 25 2 0 32768 &&
    within bytes 27 1 1 4 && within bytes 28 1 1 15 && within bytes 29 1 1 255 && within bytes 30 1 1 255 &&
    within bytes 31 1 0 1 && within bytes 32 1 1 8 && within bytes 33 1 0 1 && within bytes 34 1 1 8 &&
    within bytes 35 1 0 1 && within bytes 36 1 1 8 && within bytes 37 2 0 1024 && within bytes 39 2 512 1000 &&
    within bytes 41 1 2 60

/-- Two windows with counts above 0 share a subscriber number (R174). -/
def windowsShare (a b : NumWindow) : Bool :=
  decide (0 < a.count ∧ 0 < b.count ∧ a.first < b.first + b.count ∧ b.first < a.first + a.count)

/-- No two number windows share a subscriber number (R174). -/
def windowsApart : List NumWindow → Bool
  | [] => true
  | w :: ws => ws.all (fun x => !windowsShare w x) && windowsApart ws

/-- The setup block passes the checks of R174, with the number the straps give. -/
def setupOk (bytes : List Byte) (straps : BitVec 5) : Bool :=
  sumOk bytes && decide (fieldAt bytes 0 1 = straps.toNat) && fieldsOk bytes &&
    windowsApart (setupOf bytes).windows &&
    decide ((((setupOf bytes).windows.map NumWindow.count).sum) ≤ Config.subCount)

/-! ### Cold reset (R175, R176) -/

/-- RESET taken as asserted (R176, R187): everything is abandoned, the outputs are released, every fault cause is
cleared, the line timer stops and the last error address becomes absent. The Claim Builder is IDLE with no window from
here on (R121). A pulse under 10 µs is filtered. The time base goes on from where it stood: it starts at 0 in
`State.reset` alone, and no rule says what a reset in mid-run does to it (DESIGN CHOICE, log 4). What else stands on
chip, the clock's state among it, stays as it was until the setup block has been read (R84, R95, R176; DESIGN CHOICE,
unsafe: log 46). -/
def State.assertReset (s : State) (lowMicros : Nat) : State :=
  if lowMicros < 10 then s
  else
    (((s.withUnit { s.unit with resetLow := true, recovery := none }).withFaults Faults.clear).withSpan
      { s.span with onAir := none, ackDriven := false }).withClaims ClaimBuilder.cold

/-- RESET released after assertion (R175, R176): INIT, and the setup read begins. The clock and the rest of the on-chip
state still stand as they were at the assertion (DESIGN CHOICE, unsafe: log 46). -/
def State.releaseReset (s : State) : State :=
  if s.unit.resetLow then s.withUnit { s.unit with resetLow := false, engine := .init, initPhase := .setupRead } else s

/-- The engine waits in INIT for the setup read. -/
def State.readingSetup (s : State) : Bool :=
  decide (s.unit.engine = .init) && decide (s.unit.initPhase = .setupRead) && !s.unit.resetLow

/-- What the controller of the setup line sends, in order (R186): a start, the memory's device address with a write or a
read, a word address, and the clocks of one byte read, acknowledged or not. -/
inductive LineAct where
  | start
  | device (read : Bool)
  | word (address : Nat)
  | read (acknowledged : Bool)
deriving DecidableEq, Repr

/-- The transfer of the setup read (R186): the device address with a write of word address 0, then a second start with a
read, and the 128 bytes in one sequential run, each acknowledged but the last. -/
def setupTransfer : List LineAct :=
  [.start, .device false, .word 0, .start, .device true] ++ List.replicate 127 (.read true) ++ [.read false]

/-- What the engine sends on the setup line (R186): the transfer while the setup read is under way, and nothing at any
other time, since the line is not driven again until the next cold reset. The spec does not say whether a controller
whose device address goes unanswered sends the rest; the model holds the transfer whole (log 41). -/
def State.setupLine (s : State) : List LineAct := if s.readingSetup then setupTransfer else []

/-- The engine waits in INIT for the INIT sweep. -/
def State.sweepingInit (s : State) : Bool :=
  decide (s.unit.engine = .init) && decide (s.unit.initPhase = .sweep) && !s.unit.resetLow

/-- The on-chip state of every block at its cold reset values (R18, R60, R71, R84, R98, R140, R172, R176), the store
untouched. The acknowledgement slot of a frame just taken stays as it was driven (R177). A departure report of R77 that
the Message Store has not yet served (R162) is dropped with the chip's state, so waiters with room wait for the next
departure (DESIGN CHOICE, unsafe: log 39; R81 and R177 name no such report among what is kept or cleared). -/
def State.coldOnChip (s : State) : State :=
  let s1 := (((s.withStats []).withSpan { SpanPort.cold with ackDriven := s.span.ackDriven }).withIntake Intake.cold).withClaims ClaimBuilder.cold
  let s2 := (s1.withTracker Tracker.cold).withClock { Clock.cold with serial := s.clock.serial }
  (s2.withStore { s2.store with cursors := cursorsEnd, serveDue := false }).withQueue
    { s2.queue with send := none, stallFrom := none }

/-- The clock counters' places in the statistics (R94). -/
def clockKeys : List Nat :=
  [Stat.marksEarly, .marksLate, .marksOutOfStep, .marksMissed, .clockJumps, .clockAcquired, .clockLosses].map statKey

/-- The Window Clock at its cold reset values, its seven counters among them, the serial in store untouched (R84, R95).
-/
def State.coldClock (s : State) : State :=
  (s.withClock { Clock.cold with serial := s.clock.serial }).withStats
    (s.stats.filter (fun p => !decide (p.1 ∈ clockKeys)))

/-- A rejected setup block (R174): HALTED with SETUP_BAD latched. The Window Clock and the Claim Builder have their cold
reset values (R95, R121); that the rest of the chip's state stays is the model's choice (log 22). -/
def State.rejectSetup (s : State) : State :=
  (((s.withUnit { s.unit with engine := .halted }).coldClock).withClaims ClaimBuilder.cold).latch .setupBad

/-- The setup read completes (R173, R174, R176): a rejected block halts the engine; an accepted one is copied, the
blocks take their cold reset values and the INIT sweep starts. -/
def State.setupRead (s : State) (line : SetupLine) (straps : BitVec 5) : State :=
  if s.readingSetup then
    let bytes := setupBytes line
    if setupOk bytes straps then
      let s1 := s.coldOnChip
      s1.withUnit { s1.unit with setup := setupOf bytes, initPhase := .sweep }
    else s.rejectSetup
  else s

/-- The INIT sweep is complete (R176): every record, slot, list, queue, tariff and the window serial have their cold
values, every byte of the store has been written and carries good parity (R182, R185), and the engine enters SERVICE
with last start COLD. -/
def State.initDone (s : State) : State :=
  if s.sweepingInit then
    let s1 := (((((s.withSubs []).withStore MsgStore.cold).withQueue RecordQueue.cold).withCharge Tariffs.cold).withClock
      { s.clock with serial := 0 }).withParity []
    s1.withUnit { s1.unit with engine := .service, lastStart := .cold }
  else s

/-! ### Warm restart (R177 to R179) -/

/-- A taken RESTART (R177): RECOVERY with last start WARM; every block's on-chip state cleared and every counter 0; the
store, the setup copy, the fault causes, the last error address and the line timer kept. The window serial is read back
from store (R84), after the clearing (log 7). -/
def State.takeRestart (s : State) : State :=
  let s1 := s.coldOnChip
  (s1.withUnit { s1.unit with
    engine := .recovery, lastStart := .warm, recovery := some { next := 0, rest := [] } }).noteReads [.serial]

/-- The first record from a local index on that is not VACANT and has messages pending (R178). -/
def nextPending (from_ : Nat) : Table Subscriber → Option (Nat × List Nat)
  | [] => none
  | (i, r) :: t =>
    if from_ ≤ i ∧ r.state ≠ .vacant ∧ r.pendingList ≠ [] then some (i, r.pendingList) else nextPending from_ t

/-- The next message of the sweep and where the sweep then stands (R178). -/
def State.sweepNext (s : State) (p : RecoveryPos) : Option (Nat × RecoveryPos) :=
  match p.rest with
  | slot :: rest => some (slot, { p with rest := rest })
  | [] =>
    match nextPending p.next s.subs with
    | some (i, slot :: rest) => some (slot, { next := i + 1, rest := rest })
    | _ => none

/-- A message that is left RESTING by the sweep has its entry created BETWEEN if it is two-way (R141, R178). -/
def State.restoreEntry (s : State) (slot : Nat) (m : Msg) : State :=
  if (s.sub m.subIndex).twoWay then s.addBetween slot m else s

/-- The claim link of a message cleared, if it is present; a message without one is not written (R178). -/
def State.clearLink (s : State) (slot : Nat) (m : Msg) : State :=
  if m.link.isSome then s.putMsg slot { m with link := none } else s

/-- The treatment of one message by the RECOVERY sweep (R178). The not-before serial of an AWAITING one is the current
serial, read from store (R84, R182). -/
def State.recoverMsg (s : State) (slot : Nat) (m : Msg) : State :=
  let m1 := { m with link := none }
  match m.state with
  | .queued => s.clearLink slot m
  | .resting _ => (s.clearLink slot m).restoreEntry slot m1
  | .claimed before =>
    if m.recallMark then s.finishUnlinked slot m1 .cancelled
    else
      match before with
      | .queued => s.putMsg slot { m1 with state := .queued }
      | .resting nb => (s.putMsg slot { m1 with state := .resting nb }).restoreEntry slot m1
  | .awaiting =>
    if m.sends < s.unit.setup.maxSends then ((s.rest slot m1 s.clock.serial).addBetween slot m1).noteReads [.serial]
    else s.finishUnlinked slot m1 (if m.held = 0 then .undelivered else .partly)
  | .finishing _ _ .claim => (s.putMsg slot m1).settle slot
  | .finishing _ _ .queue => s

/-- The subscriber records of the local indices from one up to another, the second left out. -/
def subscribersFrom (first next : Nat) : List StorePlace := (List.range' first (next - first)).map StorePlace.subscriber

/-- One step of the RECOVERY sweep (R178): it reads the records it passes on its way to the next message, that message's
record and its subscriber's. -/
def State.recoveryStep (s : State) (e : Env) : State :=
  match s.unit.recovery with
  | some p =>
    if s.recovering then
      match s.sweepNext p with
      | some (slot, p1) =>
        let s1 := (s.advance e.moment).withUnit { s.unit with recovery := some p1 }
        (match s1.msg slot with
        | some m => s1.recoverMsg slot m
        | none => s1).noteReads (subscribersFrom p.next p1.next ++ s.readsOf slot)
      | none => s
    else s
  | none => s

/-- The end of the RECOVERY sweep (R179, R172): the records left are read and passed; SERVICE; the head record becomes
READY with its stall timer at 0, and a period sweep resumes where it stood. -/
def State.recoveryDone (s : State) (e : Env) : State :=
  match s.unit.recovery with
  | some p =>
    if s.recovering && (s.sweepNext p).isNone then
      let s1 := s.advance e.moment
      ((s1.withUnit { s1.unit with engine := .service, recovery := none }).withQueue { s1.queue with
        send := if s1.queue.records.isEmpty then none else some .ready,
        stallFrom := if s1.queue.records.isEmpty then none else some s1.now,
        sweep := s1.queue.sweep.map (fun w => { w with paused := false }) }).noteReads
          (subscribersFrom p.next Config.subCount ++ [.pointers, .period])
    else s
  | none => s

/-! ### The FAULT line timer (R181) -/

/-- The FAULT line timer reaches 0 (R181). -/
def State.faultExpiry (s : State) : State :=
  match s.faults.lineEnd with
  | some t => (s.advance t).withFaults { s.faults with lineEnd := none }
  | none => s

end Sys2Proof.Machine
end

