-- ==== Sys2Proof/Machine/Tracking.lean ====
section
/-! DEFINITION. The Acknowledgement Tracker: HEARD (R129 to R133) and deadlines with the retry ladder (R134 to
R136). -/

namespace Sys2Proof.Machine

/-! ### Deadlines -/

/-- The distance to the next window of number `home` after one of number `window`: 1 to 75 (R136). -/
def homeDistance (home window : Nat) : Nat :=
  let d := (home + 75 - window % 75) % 75
  if d = 0 then 75 else d

/-- The gap of the retry ladder, in laps (R136). -/
def ladderGap (sends : Nat) : Nat := min (sends - 1) 3

/-- The not-before serial of a message rested at its deadline (R136). -/
def notBeforeAt (serial : Serial) (window home sends : Nat) : Serial :=
  serial + BitVec.ofNat 32 (homeDistance home window + 75 * ladderGap sends)

/-- The outcome of a message that has used all its sends (R135). -/
def exhausted (m : Msg) : Ending := if m.held = 0 then .undelivered else .partly

/-- An AWAITING message rested at its deadline: its entry becomes BETWEEN and leaves the deadline list (R135). -/
def State.restAtDeadline (s : State) (slot : Nat) (m : Msg) (notBefore : Serial) : State :=
  (s.withTracker { s.tracker with
    entries := setEntryState slot .between s.tracker.entries,
    deadlines := s.tracker.deadlines.filter (fun d => d ≠ slot) }).rest slot m notBefore

/-- The decision of R135 for a message at its deadline. -/
def State.decideDeadline (s : State) (serial : Serial) (window slot : Nat) (m : Msg) : State :=
  if m.sends = s.unit.setup.maxSends then s.finish slot (exhausted m)
  else if pastLifetime s.unit.setup m serial then s.finish slot .expired
  else if m.state = .awaiting then
    s.restAtDeadline slot m (notBeforeAt serial window (s.sub m.subIndex).homeWindow m.sends)
  else s

/-- One entry of the deadline list at an event (R134). -/
def State.meetDeadline (serial : Serial) (window : Nat) (s : State) (slot : Nat) : State :=
  match s.entryOf slot with
  | some e =>
    if e.state = .waiting serial then
      let s1 := s.bump .deadlinesExpired
      (match s1.msg slot with
      | some m => s1.decideDeadline serial window slot m
      | none => s1).noteReads (s.readsOf slot)
    else s
  | none => s

/-- The Tracker's reaction to a window-begun event (R134). -/
def State.trackerOnWindow (s : State) (serial : Serial) (window : Nat) : State :=
  s.tracker.deadlines.foldl (State.meetDeadline serial window) s

/-! ### HEARD -/

/-- The last heard after an offer (R131). -/
def offerHeard (held : Option LastHeard) (o : LastHeard) : LastHeard :=
  match held with
  | none => o
  | some l =>
    if o.serial ≠ l.serial then o
    else if l.grade < o.grade then o
    else if o.grade = l.grade ∧ o.zone < l.zone then o
    else l

/-- The message record after a HEARD's parts (R68, R130). -/
def addHeld (m : Msg) (parts : PartMask) : Msg :=
  match m.state with
  | .claimed _ => { m with held := m.held ||| (parts &&& m.aired) }
  | .awaiting => { m with held := m.held ||| (parts &&& m.aired) }
  | .resting _ => { m with held := m.held ||| (parts &&& m.aired) }
  | _ => m

/-- Every part of a message is held (R132). -/
def allHeld (m : Msg) : Bool := decide (allParts m.counts.length &&& ~~~ m.held = 0)

/-- A HEARD applied to the message of the entry it matched (R130 to R132). The serial offered is read from store (R84,
R182). A message that gains no part and a last heard that is kept are not written (R130, R131). -/
def State.applyHeard (s : State) (b : HeardBody) (slot : Nat) (m : Msg) : State :=
  let m1 := addHeld m b.held
  let s1 := if m1 = m then s else s.putMsg slot m1
  let r := s1.sub m.subIndex
  let best := offerHeard r.lastHeard ⟨b.zone.toNat, b.grade.toNat, s.clock.serial⟩
  let s2 := (if r.lastHeard = some best then s1
    else s1.putSub m.subIndex { r with lastHeard := some best }).noteReads [.serial]
  if allHeld m1 then s2.finish slot .delivered else s2

/-- A matched HEARD is late: its entry is BETWEEN (R133). -/
def isBetween (e : Entry) : Bool := decide (e.state = .between)

/-- A taken HEARD (R129 to R133). -/
def State.takeHeard (s : State) (b : HeardBody) : State :=
  match s.entryAt b.tag.toNat b.seq.toNat with
  | none => s.bump .heardUnmatched
  | some x =>
    let s1 := s.bump .heardMatched
    let s2 := if isBetween x then s1.bump .lateHeards else s1
    (match s2.msg x.slot with
    | some m => s2.applyHeard b x.slot m
    | none => s2).noteReads (s.readsOf x.slot)

end Sys2Proof.Machine
end

