-- ==== Sys2Proof/Machine/Windows.lean ====
section
/-! DEFINITION. The Claim Builder's windows: opening, closing, resolving and voiding (R99 to R101), the fill view and
the engine's own claims (R102, R113, R114), and reports (R115 to R117). -/

namespace Sys2Proof.Machine

/-! ### Resolving at the window's own beginning -/

/-- A sent claim with no report entry, at its window's beginning by a mark: carried in full (R99). -/
def State.missingCarried (t : Serial) (s : State) (c : ClaimRec) : State :=
  if c.resolved then s else (c.items.foldl (State.carryItem t) s).bump .reportsMissing

/-- A sent claim with no report entry, at its window's beginning by coasting: spilled in full (R100), in item order (log
36). -/
def State.missingSpilled (s : State) (c : ClaimRec) : State :=
  if c.resolved then s else (c.items.foldl State.spillItem s).bump .reportsMissing

/-- A sent claim voided (R101): its items are reverted, in item order (log 36), and not counted as spilled. -/
def State.voidClaim (s : State) (c : ClaimRec) : State :=
  if c.resolved then s else (c.items.foldl State.dropItem s).bump .claimsVoided

/-- Step 1 of R99 and R100: the window record that holds the serial, if any, is resolved claim by claim and freed; a
composition or prepared claim for it is abandoned first. Its claims are resolved in the order of their numbers and the
items of a spilled one in item order; the rules give an order to carried items alone (DESIGN CHOICE, unsafe: log 36). -/
def State.resolveAt (s : State) (serial : Serial) (one : State → ClaimRec → State) : State :=
  let s1 :=
    match s.claims.closedWin with
    | some w =>
      if w.serial = serial then
        let r := w.claims.foldl one s
        r.withClaims { r.claims with closedWin := none }
      else s
    | none => s
  match s1.claims.openWin with
  | some w =>
    if w.serial = serial then
      let r := w.claims.foldl one s1.abandon
      r.withClaims { r.claims with openWin := none }
    else s1
  | none => s1

/-- Step 2 of R99: the OPEN window whose serial is the one given becomes CLOSED. Where a bad byte of the stored serial
has left a CLOSED record that step 1 did not match, that record is overwritten, its claims unresolved (DESIGN CHOICE,
unsafe: log 45). -/
def State.closeAt (s : State) (serial : Serial) : State :=
  match s.claims.openWin with
  | some w =>
    if w.serial = serial then
      let s1 := s.abandon
      s1.withClaims { s1.claims with openWin := none, closedWin := some w }
    else s
  | none => s

/-- The test of the opening walk on one message (R73), which is read. -/
def State.expireUnclaimed (serial : Serial) (s : State) (slot : Nat) : State :=
  (match s.msg slot with
  | some m =>
    if claimable m && m.link.isNone && pastLifetime s.unit.setup m serial then s.finish slot .expired else s
  | none => s).noteReads [.message slot]

/-- The opening walk of one list (R73): the list's head is read, and each message on it. -/
def State.expireList (window : Nat) (serial : Serial) (s : State) (f : Feed) : State :=
  ((s.dueList (dueKey window f)).foldl (State.expireUnclaimed serial) s).noteReads [.dueList (dueKey window f)]

/-- The opening walk of the three lists of a window's number (R73). -/
def State.openingWalk (s : State) (window : Nat) (serial : Serial) : State :=
  [Feed.urgent, Feed.retry, Feed.routine].foldl (State.expireList window serial) s

/-- Step 3 of R99: a window record becomes OPEN, the fill view, the arbiter and the blocked set are cleared, the opening
walk is made, and R103 tests. Where a bad byte of the stored serial leaves no record free, the OPEN one is overwritten,
its claims unresolved, and a composition in flight goes on for the new window (DESIGN CHOICE, unsafe: log 45). -/
def State.openWindow (s : State) (air : AirTime) (serial : Serial) (plan : AirPlan) : State :=
  let s1 := s.withClaims { s.claims with
    openWin := some { air := air, serial := serial, plan := plan, sent := 0, claims := [] },
    fill := zonesZero, arbiter := Arbiter.clear, blocked := [] }
  let s2 := s1.openingWalk air.window serial
  s2.withClaims { s2.claims with startTest := true }

/-- The Claim Builder's reaction to a window-begun event with source MARK and serial `s` (R99): the plan applies to the
air time two ahead. -/
def State.claimsOnMark (s : State) (serial : Serial) (ahead : AirTime) (plan : AirPlan) : State :=
  ((s.resolveAt serial (State.missingCarried serial)).closeAt (serial + 1)).openWindow ahead (serial + 2) plan

/-- The Claim Builder's reaction to a window-begun event with source COAST (R100). -/
def State.claimsOnCoast (s : State) (serial : Serial) : State :=
  let s1 := (s.resolveAt serial State.missingSpilled).abandon
  s1.withClaims { s1.claims with slot := .idle }

/-- The claims of a window record, if it is present. -/
def claimsOf : Option WindowRec → List ClaimRec
  | some w => w.claims
  | none => []

/-- Voiding at a jump or a loss (R101), the older window record first, and the claims of each in the order of their
numbers (log 36). -/
def State.voidAll (s : State) : State :=
  let s1 := s.abandon
  let s2 := (claimsOf s1.claims.closedWin ++ claimsOf s1.claims.openWin).foldl State.voidClaim s1
  s2.withClaims { s2.claims with openWin := none, closedWin := none, slot := .idle }

/-! ### CLAIM frames (R102, R110, R114) -/

/-- A CLAIM's items added to the fill view, each counter saturating at 65,535 (R102). -/
def addFill (fill : List Nat) (items : List ClaimItem) : List Nat :=
  items.foldl (fun l i => (addCost l i.zones i.cost.toNat).map (min Config.max16)) fill

/-- The engine's own CLAIM taken (R114): the claim slot becomes IDLE and R103 tests. -/
def State.ownClaim (s : State) : State :=
  s.withClaims { s.claims with
    slot := (match s.claims.slot with
      | .sent => .idle
      | x => x),
    startTest := true }

/-- A taken CLAIM (R102, R110, R114). -/
def State.takeClaim (s : State) (src : Nat) (b : ClaimBody) : State :=
  let onWindow : Bool :=
    match s.claims.openWin with
    | some w => decide (w.air = ⟨b.lap.toNat, b.window.toNat⟩)
    | none => false
  let s1 := if onWindow then s.withClaims { s.claims with fill := addFill s.claims.fill b.items }
    else s.bump .claimsOffWindow
  if src = s.unit.setup.own then s1.ownClaim
  else if onWindow then s1.abandon else s1

/-! ### The engine's CLAIM reported sent (R113) -/

/-- A prepared claim reported sent: its items are marked sent and it is kept UNRESOLVED under its window. -/
def State.keepSent (s : State) (w : WindowRec) (c : Composition) : State :=
  let s1 := c.items.foldl State.markSent s
  (s1.withClaims { s1.claims with
    openWin := some { w with
      sent := w.sent + 1, claims := w.claims ++ [{ number := w.sent, items := c.items, resolved := false }] },
    slot := .sent }).bump .claimsSent

/-- The Span Port reports the CLAIM sent (R113). -/
def State.claimSent (s : State) : State :=
  match s.span.onAir with
  | some (.claim abandoned) =>
    let s1 := s.withSpan { s.span with onAir := none }
    if abandoned then s1.bump .claimsVoided
    else
      match s.claims.slot, s.claims.openWin with
      | .prepared c, some w => s1.keepSent w c
      | _, _ => s1
  | _ => s

/-! ### Reports (R115 to R117) -/

/-- The claims of a window with one of them RESOLVED, its items dropped (R115, R116). -/
def resolveNumber (number : Nat) (l : List ClaimRec) : List ClaimRec :=
  l.map (fun c => if c.number = number then { c with items := [], resolved := true } else c)

/-- A claim of a window resolved by an entry: the first `accepted` items carried, then the rest spilled (R115), each in
item order; R116 gives the order of the carried ones (log 36). -/
def State.settleClaim (s : State) (t : Serial) (c : ClaimRec) (accepted : Nat) : State :=
  (c.items.drop accepted).foldl State.spillItem ((c.items.take accepted).foldl (State.carryItem t) s)

/-- One entry of a REPORT for the window of an air time (R115). -/
def State.reportEntry (air : AirTime) (s : State) (x : ReportEntry) : State :=
  if x.station.toNat ≠ s.unit.setup.own then s
  else
    let openHere := s.claims.openWin.filter (fun w => w.air = air)
    let closedHere := s.claims.closedWin.filter (fun w => w.air = air)
    match openHere, closedHere with
    | some w, _ =>
      match w.claims.find? (fun c => c.number = x.number.toNat ∧ c.resolved = false) with
      | some c =>
        (s.withClaims { s.claims with
          openWin := some { w with claims := resolveNumber c.number w.claims } }).settleClaim w.serial c
            x.accepted.toNat
      | none => s
    | none, some w =>
      match w.claims.find? (fun c => c.number = x.number.toNat ∧ c.resolved = false) with
      | some c =>
        (s.withClaims { s.claims with
          closedWin := some { w with claims := resolveNumber c.number w.claims } }).settleClaim w.serial c
            x.accepted.toNat
      | none => s
    | none, none => s

/-- A taken REPORT (R115). -/
def State.takeReport (s : State) (b : ReportBody) : State :=
  b.entries.foldl (State.reportEntry ⟨b.lap.toNat, b.window.toNat⟩) s

end Sys2Proof.Machine
end

