-- ==== Sys2Proof/Machine/WindowClock.lean ====
section
/-! DEFINITION. The Window Clock: marks (R88 to R91), coasting and loss (R92, R93), and the events it announces (R86,
R87). -/

namespace Sys2Proof.Machine

/-- The successor of an air time (R83). -/
def airNext (a : AirTime) : AirTime :=
  if a.window < 74 then ⟨a.lap, a.window + 1⟩ else if a.lap < 65535 then ⟨a.lap + 1, 0⟩ else ⟨0, 0⟩

/-- A mark is consistent with an earlier one (R83). -/
def consistent (before : AirTime) (beforeAt : Nat) (air : AirTime) (arrival : Nat) : Bool :=
  decide (air = airNext before) && decide (beforeAt + 2340 ≤ arrival ∧ arrival ≤ beforeAt + 2460)

/-- The plan of a MARK (section 5.1). -/
def planOf (b : MarkBody) : AirPlan := { caps := b.caps.map BitVec.toNat, zones := b.zones }

/-- The air time of a MARK. -/
def airOf (b : MarkBody) : AirTime := ⟨b.lap.toNat, b.window.toNat⟩

/-- Both blocks react to a window-begun event, in the order the step's circumstances name (R87, log 8). -/
def inOrder (e : Env) (claims tracker : State → State) (s : State) : State :=
  if e.trackerFirst then claims (tracker s) else tracker (claims s)

/-- The reactions to a window-begun event with source MARK. -/
def State.announceMark (s : State) (e : Env) (serial : Serial) (air : AirTime) (plan : AirPlan) : State :=
  inOrder e (fun t => t.claimsOnMark serial (airNext (airNext air)) plan)
    (fun t => t.trackerOnWindow serial air.window) s

/-- The reactions to a window-begun event with source COAST. -/
def State.announceCoast (s : State) (e : Env) (serial : Serial) (air : AirTime) : State :=
  inOrder e (fun t => t.claimsOnCoast serial) (fun t => t.trackerOnWindow serial air.window) s

/-- The clock after a window begun by a mark (R88, R90): TRACKING, with the mark's air time and arrival, no misses, no
candidate, no held mark, the mark's plan as the latest, and the serial raised. -/
def clockBegun (c : Clock) (air : AirTime) (arrival : Nat) (plan : AirPlan) : Clock :=
  { state := .tracking, current := some ⟨air, arrival, .mark⟩, misses := 0, candidate := none, held := none,
    latest := some (airNext (airNext air), plan), serial := c.serial + 1 }

/-- Writes the Window Clock with a serial raised, which is read from store and written there again (R84). -/
def State.raiseClock (s : State) (c : Clock) : State := (s.withClock c).rewrite [.serial]

/-- A mark begins a window (R88, R90, R91). -/
def State.beginByMark (s : State) (e : Env) (air : AirTime) (arrival : Nat) (plan : AirPlan) : State :=
  (s.raiseClock (clockBegun s.clock air arrival plan)).announceMark e (s.clock.serial + 1) air plan

/-- A MARK in SEARCH (R88). -/
def State.markInSearch (s : State) (e : Env) (air : AirTime) (arrival : Nat) (plan : AirPlan) : State :=
  match s.clock.candidate with
  | none => s.withClock { s.clock with candidate := some ⟨air, arrival⟩ }
  | some c =>
    if air = c.air then s
    else if consistent c.air c.arrival air arrival then (s.bump .clockAcquired).beginByMark e air arrival plan
    else s.withClock { s.clock with candidate := some ⟨air, arrival⟩ }

/-- An out-of-step mark (R91): a jump when it is consistent with the held one, else it is counted and held. -/
def State.markOutOfStep (s : State) (e : Env) (air : AirTime) (arrival : Nat) (plan : AirPlan) : State :=
  let jumps : Bool :=
    match s.clock.held with
    | some h => consistent h.air h.arrival air arrival
    | none => false
  if jumps then ((s.bump .clockJumps).voidAll).beginByMark e air arrival plan
  else (s.bump .marksOutOfStep).withClock { s.clock with held := some ⟨air, arrival, plan⟩ }

/-- A MARK in TRACKING or COASTING (R89): duplicate, late, early, good or out of step. -/
def State.markInStep (s : State) (e : Env) (cur : Current) (air : AirTime) (arrival : Nat) (plan : AirPlan) : State :=
  let expected := cur.start + Config.windowMs
  if air = cur.air then
    match cur.begun with
    | .mark => s
    | .coast => s.bump .marksLate
  else if air = airNext cur.air then
    if arrival + Config.toleranceMs < expected then s.bump .marksEarly
    else if arrival ≤ expected + Config.toleranceMs then s.beginByMark e air arrival plan
    else s
  else s.markOutOfStep e air arrival plan

/-- A taken MARK (R82): its arrival is the moment the frame is taken. -/
def State.takeMark (s : State) (e : Env) (b : MarkBody) : State :=
  match s.clock.state, s.clock.current with
  | .search, _ => s.markInSearch e (airOf b) e.moment (planOf b)
  | _, some cur => s.markInStep e cur (airOf b) e.moment (planOf b)
  | _, none => s

/-- The clock after a coasted window (R92). -/
def clockCoasted (c : Clock) (cur : Current) : Clock :=
  { c with
    state := .coasting, current := some ⟨airNext cur.air, cur.start + Config.windowMs, .coast⟩,
    misses := c.misses + 1, serial := c.serial + 1 }

/-- The clock after the fourth miss (R93). -/
def clockLost (c : Clock) : Clock :=
  { state := .search, current := none, misses := 0, candidate := none, held := none, latest := none,
    serial := c.serial }

/-- A coast expiry (R92, R93), at the moment 60 ms after the expected moment. -/
def State.coast (s : State) (e : Env) : State :=
  match s.clock.state, s.clock.current with
  | .search, _ => s
  | _, none => s
  | _, some cur =>
    let s1 := ((s.advance e.moment).advance (cur.start + Config.windowMs + Config.toleranceMs)).bump .marksMissed
    if s.clock.misses < 3 then
      (s1.raiseClock (clockCoasted s.clock cur)).announceCoast e (s.clock.serial + 1) (airNext cur.air)
    else
      (((s1.latch .clockLost).bump .clockLosses).withClock (clockLost s.clock)).voidAll

end Sys2Proof.Machine
end

