-- ==== Sys2Proof/Machine/Receive.lean ====
section
/-! DEFINITION. A taken frame handed to its owner (R10, R12), and the whole receiver on a frame as it stands on the
Span (R7 to R13). -/

namespace Sys2Proof.Machine

/-- Hands a taken QUERY to the Setup and Fault Unit, by its kind byte. -/
def State.takeQuery (s : State) (h : Header) (e : Env) (kind : Byte) (b : QueryBody) : State :=
  if kind.toNat = 0 then s.takeQueryStats h.src.toNat b.tag.toNat (decide (b.clear.toNat = 1))
  else if kind.toNat = 1 then s.takeQuerySub h.src.toNat (s.toSelf h) b
  else if kind.toNat = 2 then s.takeQueryMsg h.src.toNat b
  else s.takeQueryClock h.src.toNat e b

/-- Hands a taken frame to the block that owns its kind (R10, R12). -/
def State.handOver (s : State) (h : Header) (e : Env) (b : Body) : State :=
  match b with
  | .mark x => s.takeMark e x
  | .report x => s.takeReport x
  | .claim x => s.takeClaim h.src.toNat x
  | .heard x => s.takeHeard x
  | .deposit x => s.takeDeposit h.src.toNat x
  | .recall x => s.takeRecall h.src.toNat x
  | .load op x => s.takeLoad h.src.toNat (s.toSelf h) op x
  | .tariffStage x => s.takeTariff x
  | .credit x => s.takeCredit h.src.toNat (s.toSelf h) x
  | .periodClose p => s.takeClose p.toNat
  | .query k x => s.takeQuery h e k x
  | .restart => s.takeRestart

/-- Whether the engine takes frames of a kind code to a destination (R9). -/
def State.wanted (s : State) (f : WireFrame) : Option TakenKind :=
  if s.toSelf f.head || decide (f.head.dst = 31) then kindOfCode f.kind else none

/-- The Span Port's series of tests on a frame as it stands on the Span (R7 to R13): the length field, the check, the
header's form, the destination, the kind, the source, and the form of the body. A frame that passes all of them is taken
and handed to its owner. A length field over 2,048 ends reception until the next idle gap (R8). -/
def State.hearWire (s : State) (e : Env) (f : WireFrame) : State :=
  let s1 := s.frameMoment e
  if !s.listening then s1
  else if frameTooLong f then
    (s1.withSpan { s1.span with waitingGap := true }).bump .framesMalformed
  else if frameShort f || checkFails f then s1.bump .framesBad
  else if headMalformed f.head then s1.bump .framesMalformed
  else
    match s.wanted f with
    | none => s1
    | some k =>
      if !s.sourceListed k f.head.src.toNat then s1.bump .framesMisdirected
      else
        match readBody k (f.body.take f.len.toNat) with
        | none => s1.bump .framesMalformed
        | some b => s.hear f.head e b (fun t => t.handOver f.head e b)

end Sys2Proof.Machine
end

