-- ==== Sys2Proof/Machine/SpanCommands.lean ====
section
/-! DEFINITION. The Span Port's commands. Each of the rows for a frame that is dropped takes the frame as it stands on
the Span and runs the whole receiver on it, so the tests, and not the row's name, decide (log 14). -/

namespace Sys2Proof.Machine

/-- Answers of `exec` and `step`. -/
abbrev Result := Host.Outcome State Fault Refusal

/-- FRAME_BAD (R7). -/
def execFrameBad (e : Env) (f : WireFrame) (s : State) : Result := .next (s.hearWire e f)

/-- HEADER_MALFORMED (R8). -/
def execHeaderMalformed (e : Env) (f : WireFrame) (s : State) : Result := .next (s.hearWire e f)

/-- FRAME_NOT_TAKEN (R9). -/
def execFrameNotTaken (e : Env) (f : WireFrame) (s : State) : Result := .next (s.hearWire e f)

/-- MISDIRECTED_FRAME (R10). -/
def execMisdirectedFrame (e : Env) (f : WireFrame) (s : State) : Result := .next (s.hearWire e f)

/-- MALFORMED_FRAME_BODY (R11). -/
def execMalformedFrameBody (e : Env) (f : WireFrame) (s : State) : Result := .next (s.hearWire e f)

/-- IDLE_GAP_END (R1, R15). -/
def execIdleGapEnd (e : Env) (rival : Option (BitVec 12)) (s : State) : Result := .next (s.gapEnd e rival)

/-- SEND_FAULT (R6). -/
def execSendFault (e : Env) (s : State) : Result :=
  .next (if s.serving then (s.advance e.moment).sendFaulted else s)

/-- NOTICE_ACK_SLOT (R14, R17). -/
def execNoticeAckSlot (e : Env) (dominant : Bool) (s : State) : Result :=
  .next (if s.serving then (s.advance e.moment).noticeSlot dominant else s)

end Sys2Proof.Machine
end

