-- ==== Sys2Proof/Machine/ClaimCommands.lean ====
section
/-! DEFINITION. The Claim Builder's commands. -/

namespace Sys2Proof.Machine

/-- A composition is in flight. -/
def State.composing (s : State) : Bool :=
  match s.claims.slot with
  | .composing _ => true
  | _ => false

/-- COMPOSITION_STEP (R104 to R108). -/
def execCompositionStep (e : Env) (s : State) : Result :=
  .next (if s.serving && s.composing then
    ((s.advance e.moment).composeStep).testStart else s)

/-- COMPOSITION_END (R109). -/
def execCompositionEnd (e : Env) (s : State) : Result :=
  .next (if s.serving && s.composing then (s.advance e.moment).composeEnd else s)

/-- CLAIM_REPORTED_SENT (R113). -/
def execClaimReportedSent (e : Env) (s : State) : Result :=
  .next (if s.serving then (s.advance e.moment).claimSent else s)

/-- CLAIM (R102, R110, R114). -/
def execClaim (h : Header) (e : Env) (b : ClaimBody) (s : State) : Result :=
  .next (s.hear h e (.claim b) (fun t => t.takeClaim h.src.toNat b))

/-- REPORT (R115 to R117). -/
def execReport (h : Header) (e : Env) (b : ReportBody) (s : State) : Result :=
  .next (s.hear h e (.report b) (fun t => t.takeReport b))

end Sys2Proof.Machine
end

