-- ==== Sys2Proof/Machine/ClockCommands.lean ====
section
/-! DEFINITION. The Window Clock's commands. -/

namespace Sys2Proof.Machine

/-- MARK (R82, R88 to R91), with the reactions to the window it begins (R99, R101, R134). -/
def execMark (h : Header) (e : Env) (b : MarkBody) (s : State) : Result :=
  .next (s.hear h e (.mark b) (fun t => t.takeMark e b))

/-- COAST_EXPIRY (R92, R93), with the reactions to it (R100, R101, R134). -/
def execCoastExpiry (e : Env) (s : State) : Result := .next (if s.serving then (s.coast e).testStart else s)

end Sys2Proof.Machine
end

