-- ==== Sys2Proof/Machine/IntakeCommands.lean ====
section
/-! DEFINITION. The commands of the Intake Unit and of the Acknowledgement Tracker. -/

namespace Sys2Proof.Machine

/-- DEPOSIT (R39 to R49). -/
def execDeposit (h : Header) (e : Env) (b : DepositBody) (s : State) : Result :=
  .next (s.hear h e (.deposit b) (fun t => t.takeDeposit h.src.toNat b))

/-- DELAYED_DEPOSIT_RUN (R50). -/
def execDelayedDepositRun (e : Env) (s : State) : Result :=
  .next (if s.serving then ((s.advance e.moment).delayedRun).testStart else s)

/-- DISCARD_TIMER_EXPIRY (R51). -/
def execDiscardTimerExpiry (origin : BitVec 5) (tag : BitVec 16) (s : State) : Result :=
  .next (if s.serving then s.discard origin.toNat tag.toNat else s)

/-- RECALL (R54 to R59). -/
def execRecall (h : Header) (e : Env) (b : RecallBody) (s : State) : Result :=
  .next (s.hear h e (.recall b) (fun t => t.takeRecall h.src.toNat b))

/-- HEARD (R129 to R133). -/
def execHeard (h : Header) (e : Env) (b : HeardBody) (s : State) : Result :=
  .next (s.hear h e (.heard b) (fun t => t.takeHeard b))

end Sys2Proof.Machine
end

