-- ==== Sys2Proof/Machine/QueryCommands.lean ====
section
/-! DEFINITION. The Setup and Fault Unit's queries (R183, R184). -/

namespace Sys2Proof.Machine

/-- QUERY_STATS: a QUERY of kind 0 with clear flag 0. -/
def execQueryStats (h : Header) (e : Env) (tag : BitVec 16) (arg : BitVec 32) (s : State) : Result :=
  .next (s.hear h e (.query 0 ⟨tag, 0, arg⟩) (fun t => t.takeQueryStats h.src.toNat tag.toNat false))

/-- QUERY_STATS_CLEAR: a QUERY of kind 0 with clear flag 1. -/
def execQueryStatsClear (h : Header) (e : Env) (tag : BitVec 16) (arg : BitVec 32) (s : State) : Result :=
  .next (s.hear h e (.query 0 ⟨tag, 1, arg⟩) (fun t => t.takeQueryStats h.src.toNat tag.toNat true))

/-- QUERY_SUBSCRIBER: a QUERY of kind 1. -/
def execQuerySubscriber (h : Header) (e : Env) (b : QueryBody) (s : State) : Result :=
  .next (s.hear h e (.query 1 b) (fun t => t.takeQuerySub h.src.toNat (s.toSelf h) b))

/-- QUERY_MESSAGE: a QUERY of kind 2. -/
def execQueryMessage (h : Header) (e : Env) (b : QueryBody) (s : State) : Result :=
  .next (s.hear h e (.query 2 b) (fun t => t.takeQueryMsg h.src.toNat b))

/-- QUERY_CLOCK: a QUERY of kind 3. -/
def execQueryClock (h : Header) (e : Env) (b : QueryBody) (s : State) : Result :=
  .next (s.hear h e (.query 3 b) (fun t => t.takeQueryClock h.src.toNat e b))

end Sys2Proof.Machine
end

