-- ==== Sys2Proof/Machine/RecordCommands.lean ====
section
/-! DEFINITION. The Record Queue's commands, and the serving of the finishing wait list. -/

namespace Sys2Proof.Machine

/-- RECORD_ACK_SLOT (R14, R162, R163). -/
def execRecordAckSlot (e : Env) (dominant : Bool) (s : State) : Result :=
  .next (if s.serving then (s.advance e.moment).recordSlot dominant else s)

/-- RESEND_GAP_EXPIRY (R163). -/
def execResendGapExpiry (s : State) : Result := .next (if s.serving then s.resendExpiry else s)

/-- STALL_TIMER_EXPIRY (R164). -/
def execStallTimerExpiry (s : State) : Result := .next (if s.serving then s.stallExpiry else s)

/-- PERIOD_CLOSE (R166, R167). -/
def execPeriodClose (h : Header) (e : Env) (period : Byte) (s : State) : Result :=
  .next (s.hear h e (.periodClose period) (fun t => t.takeClose period.toNat))

/-- PERIOD_SWEEP_STEP (R168). -/
def execPeriodSweepStep (e : Env) (s : State) : Result :=
  .next (if s.serving then (s.advance e.moment).sweepStep else s)

/-- PERIOD_SWEEP_COMPLETE (R169). -/
def execPeriodSweepComplete (e : Env) (s : State) : Result :=
  .next (if s.serving then (s.advance e.moment).sweepEnd else s)

/-- WAIT_LIST_SERVE (R77). -/
def execWaitListServe (e : Env) (s : State) : Result :=
  .next (if s.serving then (s.advance e.moment).serveWaitList else s)

end Sys2Proof.Machine
end

