-- ==== Sys2Proof/Machine/StartCommands.lean ====
section
/-! DEFINITION. The Setup and Fault Unit's commands of start, restart and faults. -/

namespace Sys2Proof.Machine

/-- RESET_ASSERTED (R176, R187). -/
def execResetAsserted (lowMicros : Nat) (s : State) : Result := .next (s.assertReset lowMicros)

/-- RESET_RELEASED (R175, R176). -/
def execResetReleased (s : State) : Result := .next s.releaseReset

/-- SETUP_READ_COMPLETE (R173, R174, R176). -/
def execSetupReadComplete (e : Env) (line : SetupLine) (straps : BitVec 5) (s : State) : Result :=
  .next ((s.advance e.moment).setupRead line straps)

/-- INIT_SWEEP_COMPLETE (R176). -/
def execInitSweepComplete (s : State) : Result := .next s.initDone

/-- RECOVERY_SWEEP_STEP (R178). -/
def execRecoverySweepStep (e : Env) (s : State) : Result := .next (s.recoveryStep e)

/-- RECOVERY_SWEEP_COMPLETE (R179). -/
def execRecoverySweepComplete (e : Env) (s : State) : Result := .next (s.recoveryDone e)

/-- RESTART (R177). -/
def execRestart (h : Header) (e : Env) (s : State) : Result :=
  .next (s.hear h e .restart (fun t => t.takeRestart))

/-- FAULT_TIMER_EXPIRY (R181). -/
def execFaultTimerExpiry (s : State) : Result := .next (if s.unit.resetLow then s else s.faultExpiry)

end Sys2Proof.Machine
end

