-- ==== Sys2Proof/Machine/SubscriberCommands.lean ====
section
/-! DEFINITION. The commands of the Subscriber Table and of the Charge Unit. -/

namespace Sys2Proof.Machine

/-- LOAD_SET (R30 to R34, R128): a LOAD with operation 0. -/
def execLoadSet (h : Header) (e : Env) (b : LoadBody) (s : State) : Result :=
  .next (s.hear h e (.load 0 b) (fun t => t.takeLoad h.src.toNat (s.toSelf h) 0 b))

/-- LOAD_VACATE (R30, R35): a LOAD with operation 1. -/
def execLoadVacate (h : Header) (e : Env) (b : LoadBody) (s : State) : Result :=
  .next (s.hear h e (.load 1 b) (fun t => t.takeLoad h.src.toNat (s.toSelf h) 1 b))

/-- LOAD_OTHER_OPERATION (R30): a LOAD with the operation given. -/
def execLoadOtherOperation (h : Header) (e : Env) (op : Byte) (b : LoadBody) (s : State) : Result :=
  .next (s.hear h e (.load op b) (fun t => t.takeLoad h.src.toNat (s.toSelf h) op b))

/-- TARIFF_STAGE (R143, R144). -/
def execTariffStage (h : Header) (e : Env) (b : TariffBody) (s : State) : Result :=
  .next (s.hear h e (.tariffStage b) (fun t => t.takeTariff b))

/-- CREDIT (R153 to R156). -/
def execCredit (h : Header) (e : Env) (b : CreditBody) (s : State) : Result :=
  .next (s.hear h e (.credit b) (fun t => t.takeCredit h.src.toNat (s.toSelf h) b))

end Sys2Proof.Machine
end

