-- ==== Sys2Proof/Machine/Dispatch.lean ====
section
/-! DEFINITION. One arm per command: each calls the command's meaning. -/

namespace Sys2Proof.Machine

def exec (i : Instr) (s : State) : Host.Outcome State Fault Refusal :=
  match i with
  | .resetAsserted x => Sys2Proof.Machine.execResetAsserted x s
  | .resetReleased => Sys2Proof.Machine.execResetReleased s
  | .setupReadComplete e l p => Sys2Proof.Machine.execSetupReadComplete e l p s
  | .initSweepComplete => Sys2Proof.Machine.execInitSweepComplete s
  | .recoverySweepStep e => Sys2Proof.Machine.execRecoverySweepStep e s
  | .recoverySweepComplete e => Sys2Proof.Machine.execRecoverySweepComplete e s
  | .frameBad e f => Sys2Proof.Machine.execFrameBad e f s
  | .headerMalformed e f => Sys2Proof.Machine.execHeaderMalformed e f s
  | .frameNotTaken e f => Sys2Proof.Machine.execFrameNotTaken e f s
  | .idleGapEnd e r => Sys2Proof.Machine.execIdleGapEnd e r s
  | .sendFault e => Sys2Proof.Machine.execSendFault e s
  | .noticeAckSlot e d => Sys2Proof.Machine.execNoticeAckSlot e d s
  | .recordAckSlot e d => Sys2Proof.Machine.execRecordAckSlot e d s
  | .resendGapExpiry => Sys2Proof.Machine.execResendGapExpiry s
  | .stallTimerExpiry => Sys2Proof.Machine.execStallTimerExpiry s
  | .faultTimerExpiry => Sys2Proof.Machine.execFaultTimerExpiry s
  | .mark h e b => Sys2Proof.Machine.execMark h e b s
  | .coastExpiry e => Sys2Proof.Machine.execCoastExpiry e s
  | .compositionStep e => Sys2Proof.Machine.execCompositionStep e s
  | .compositionEnd e => Sys2Proof.Machine.execCompositionEnd e s
  | .claimReportedSent e => Sys2Proof.Machine.execClaimReportedSent e s
  | .claim h e b => Sys2Proof.Machine.execClaim h e b s
  | .report h e b => Sys2Proof.Machine.execReport h e b s
  | .heard h e b => Sys2Proof.Machine.execHeard h e b s
  | .deposit h e b => Sys2Proof.Machine.execDeposit h e b s
  | .delayedDepositRun e => Sys2Proof.Machine.execDelayedDepositRun e s
  | .discardTimerExpiry o t => Sys2Proof.Machine.execDiscardTimerExpiry o t s
  | .recall h e b => Sys2Proof.Machine.execRecall h e b s
  | .waitListServe e => Sys2Proof.Machine.execWaitListServe e s
  | .loadSet h e b => Sys2Proof.Machine.execLoadSet h e b s
  | .loadVacate h e b => Sys2Proof.Machine.execLoadVacate h e b s
  | .tariffStage h e b => Sys2Proof.Machine.execTariffStage h e b s
  | .credit h e b => Sys2Proof.Machine.execCredit h e b s
  | .periodClose h e p => Sys2Proof.Machine.execPeriodClose h e p s
  | .periodSweepStep e => Sys2Proof.Machine.execPeriodSweepStep e s
  | .periodSweepComplete e => Sys2Proof.Machine.execPeriodSweepComplete e s
  | .queryStats h e t a => Sys2Proof.Machine.execQueryStats h e t a s
  | .queryStatsClear h e t a => Sys2Proof.Machine.execQueryStatsClear h e t a s
  | .querySubscriber h e b => Sys2Proof.Machine.execQuerySubscriber h e b s
  | .queryMessage h e b => Sys2Proof.Machine.execQueryMessage h e b s
  | .queryClock h e b => Sys2Proof.Machine.execQueryClock h e b s
  | .restart h e => Sys2Proof.Machine.execRestart h e s
  | .misdirectedFrame e f => Sys2Proof.Machine.execMisdirectedFrame e f s
  | .malformedFrameBody e f => Sys2Proof.Machine.execMalformedFrameBody e f s
  | .loadOtherOperation h e op b => Sys2Proof.Machine.execLoadOtherOperation h e op b s

end Sys2Proof.Machine
end

