-- ==== Sys2Proof/Machine/StoreMap.lean ====
section
/-! DEFINITION. The map of the store (R185), and what becomes of the machine when a byte of it goes bad (R22, R160,
R182). -/

namespace Sys2Proof.Machine

/-! ### The map (R185) -/

/-- The address of the subscriber record of a local index, of 64 bytes. -/
def subscriberAt (index : Nat) : Nat := 64 * index

/-- The address of the message record of a slot, of 320 bytes. -/
def messageAt (slot : Nat) : Nat := 2097152 + 320 * slot

/-- The address of a character of a slot's message record: the characters are in the last 256 bytes of the 320. -/
def characterAt (slot place : Nat) : Nat := messageAt slot + 64 + place

/-- The address of an entry of the charge record ring, of 48 bytes. -/
def recordAt (entry : Nat) : Nat := 4718592 + 48 * entry

/-- The address of the head and tail slots of the due list of a key (3 × window + feed), of 4 bytes. -/
def dueAt (key : Nat) : Nat := 4767744 + 4 * key

/-- The address of the control area, of 256 bytes. -/
def controlAt : Nat := 4768644

/-- What the control area holds. R185 lists these items and places none of them within the area's 256 bytes. -/
def controlPlaces : List StorePlace :=
  [.pool, .waitList, .pointers, .nextNumber, .period, .serial, .tariffs] ++ (List.range 8).map StorePlace.active ++
    (List.range 8).map StorePlace.staged

/-- What a byte of the store can belong to: one place, but in the control area any of its items; nothing above the map,
where no byte is addressed. -/
def placesAt (address : Nat) : List StorePlace :=
  if address < messageAt 0 then [.subscriber (address / 64)]
  else if address < recordAt 0 then
    let slot := (address - messageAt 0) / 320
    if address < characterAt slot 0 then [.message slot] else [.character slot (address - characterAt slot 0)]
  else if address < dueAt 0 then [.record ((address - recordAt 0) / 48)]
  else if address < controlAt then [.dueList ((address - dueAt 0) / 4)]
  else if address < Config.storeBytes then controlPlaces
  else []

/-! ### Bytes that go bad -/

/-- What the record queue's head, tail and occupancy read as: the ring entry of the head, and the records taken in. -/
structure QueueRead where
  head : Nat
  records : List Record
deriving DecidableEq, Repr

/-- What the period state reads as (R165). -/
structure PeriodRead where
  period : Option Nat
  selector : BankId
  sweep : Option (Nat × Nat)
deriving DecidableEq, Repr

/-- What a place of the store reads as: a subscriber record; a message record (`none` where it reads FREE), or one of
its characters; a record of the queue by its place behind the head; a due list; or an item of the control area. -/
inductive StoreValue where
  | subscriber (index : Nat) (r : Subscriber)
  | message (slot : Nat) (m : Option Msg)
  | character (slot place : Nat) (c : Byte)
  | record (i : Nat) (r : Record)
  | dueList (window : Nat) (f : Feed) (l : List Nat)
  | pool (p : Pool)
  | waitList (l : List Nat)
  | pointers (q : QueueRead)
  | nextNumber (n : Nat)
  | period (p : PeriodRead)
  | serial (n : Serial)
  | tariffs (set : Bool) (loaded marks : BitVec 8)
  | active (cls : Nat) (x : TariffEntry)
  | staged (cls : Nat) (x : TariffEntry)
deriving DecidableEq, Repr

/-- The place of a value in a state's store. -/
def State.placeOf (s : State) : StoreValue → StorePlace
  | .subscriber index _ => .subscriber index
  | .message slot _ => .message slot
  | .character slot place _ => .character slot place
  | .record i _ => .record (s.ringEntry i)
  | .dueList window f _ => .dueList (dueKey window f)
  | .pool _ => .pool
  | .waitList _ => .waitList
  | .pointers _ => .pointers
  | .nextNumber _ => .nextNumber
  | .period _ => .period
  | .serial _ => .serial
  | .tariffs _ _ _ => .tariffs
  | .active c _ => .active c
  | .staged c _ => .staged c

/-- The characters that a message record reads with when the rest of it reads as another record: those that stand in the
record, and where it then takes in more, what is given. -/
def charsRead (before : Option Msg) (m : Msg) : Msg :=
  match before with
  | some old => { m with chars := old.chars.take m.chars.length ++ m.chars.drop old.chars.length }
  | none => m

/-- The sweep that a period state reads with; whether it is paused is on chip (R165, R168). -/
def sweepRead (before : Option Sweep) (read : Option (Nat × Nat)) : Option Sweep :=
  read.map (fun x => { next := x.1, count := x.2, paused := before.any Sweep.paused })

/-- A place of the store reads as a value from here on. The state holds what the store reads as, so every command uses
the value as read (R22, R142, R160, R182) until the engine writes the place again, and on chip nothing changes. -/
def State.readsAs (s : State) : StoreValue → State
  | .subscriber index r => s.withSubs (tableSet s.subs Subscriber.vacant index r)
  | .message slot (some m) =>
    s.withStore { s.store with msgs := tablePut s.store.msgs slot (charsRead (s.msg slot) m) }
  | .message slot none => s.withStore { s.store with msgs := tableErase s.store.msgs slot }
  | .character slot place c =>
    match s.msg slot with
    | some m => s.withStore { s.store with msgs := tablePut s.store.msgs slot { m with chars := m.chars.set place c } }
    | none => s
  | .record i r => s.withQueue { s.queue with records := s.queue.records.set i r }
  | .dueList window f l => s.withStore { s.store with due := tableSet s.store.due [] (dueKey window f) l }
  | .pool p => s.withStore { s.store with pool := p }
  | .waitList l => s.withStore { s.store with waitList := l }
  | .pointers q => s.withQueue { s.queue with head := q.head, records := q.records }
  | .nextNumber n => s.withQueue { s.queue with nextNumber := n }
  | .period p =>
    s.withQueue { s.queue with period := p.period, selector := p.selector, sweep := sweepRead s.queue.sweep p.sweep }
  | .serial n => s.withClock { s.clock with serial := n }
  | .tariffs set loaded marks => s.withCharge { s.charge with set := set, loaded := loaded, marks := marks }
  | .active c x => s.withCharge { s.charge with active := tableSet s.charge.active ⟨0, 0, 0⟩ c x }
  | .staged c x => s.withCharge { s.charge with staged := tableSet s.charge.staged ⟨0, 0, 0⟩ c x }

/-- A byte of the store goes bad between two commands: its parity bit no longer agrees, and the place it belongs to
reads as the value given (R182). Every later read of the place finds the byte (`State.noteReads`), until the place is
written again (`State.rewrite`). Like the arrival of a command it is an event from outside the engine and no step of it.
Its grain is the place, since the spec puts no field at a byte of its own (DESIGN CHOICE, log 26). An address at which
the place does not stand gives no event. -/
def State.goesBad (s : State) (address : Nat) (v : StoreValue) : State :=
  if s.placeOf v ∈ placesAt address then (s.readsAs v).withParity (tablePut s.parity address (s.placeOf v)) else s

end Sys2Proof.Machine
end

