-- ==== Sys2Proof/Safety.lean ====
section
/-! DEFINITION. The terms in which claims speak: the parts of the state and what a step keeps, frames taken, and the
invariants that every step keeps. -/

namespace Sys2Proof.Machine

/-! ### What a step keeps -/

/-- The parts of the state, one for each field. -/
inductive Part where
  | pending | now | unit | faults | stats | span | subs | intake | store | clock | claims | tracker | charge | queue | parity
deriving DecidableEq, Repr

/-- The second state holds the same value in a part as the first. -/
def State.samePart (s t : State) : Part → Prop
  | .pending => t.pending = s.pending
  | .now => t.now = s.now
  | .unit => t.unit = s.unit
  | .faults => t.faults = s.faults
  | .stats => t.stats = s.stats
  | .span => t.span = s.span
  | .subs => t.subs = s.subs
  | .intake => t.intake = s.intake
  | .store => t.store = s.store
  | .clock => t.clock = s.clock
  | .claims => t.claims = s.claims
  | .tracker => t.tracker = s.tracker
  | .charge => t.charge = s.charge
  | .queue => t.queue = s.queue
  | .parity => t.parity = s.parity

/-- Every part but those listed is as it was. -/
def KeptBut (ps : List Part) (s t : State) : Prop := ∀ p, p ∉ ps → s.samePart t p

/-! ### Frames taken -/

/-- The Span Port takes a frame of this header and body (R8 to R13): it receives, the header is well formed, the frame
is addressed to the engine or to all, its source is one of those its kind is taken from, and it has its kind's form. -/
def State.takes (s : State) (h : Header) (b : Body) : Bool :=
  s.listening && !headMalformed h && (s.toSelf h || decide (h.dst = 31)) && s.sourceListed (kindOfBody b) h.src.toNat &&
    formOk h b

/-- The state in which a block meets a taken frame: the time base at the frame's moment, and the acknowledgement slot
driven exactly when the frame is addressed to the engine's own number (R12). -/
def State.atFrame (s : State) (h : Header) (e : Env) : State := (s.frameMoment e).putAck (s.toSelf h)

/-- The command that a frame of a header and a body stands for, where a row of the table of commands is a frame of its
kind. -/
def commandOf (h : Header) (e : Env) : Body → Option Instr
  | .mark b => some (.mark h e b)
  | .report b => some (.report h e b)
  | .claim b => some (.claim h e b)
  | .heard b => some (.heard h e b)
  | .deposit b => some (.deposit h e b)
  | .recall b => some (.recall h e b)
  | .load op b =>
    if op = 0 then some (.loadSet h e b)
    else if op = 1 then some (.loadVacate h e b)
    else some (.loadOtherOperation h e op b)
  | .tariffStage b => some (.tariffStage h e b)
  | .credit b => some (.credit h e b)
  | .periodClose p => some (.periodClose h e p)
  | .query k b =>
    if k = 0 ∧ b.clear = 0 then some (.queryStats h e b.tag b.arg)
    else if k = 0 ∧ b.clear = 1 then some (.queryStatsClear h e b.tag b.arg)
    else if k = 1 then some (.querySubscriber h e b)
    else if k = 2 then some (.queryMessage h e b)
    else if k = 3 then some (.queryClock h e b)
    else none
  | .restart => some (.restart h e)

/-- The body's counts fit the bytes that its layout gives them, and the body the longest frame (R2, section 1.8). -/
def bodyFits : Body → Bool
  | .mark b => decide (b.caps.length = 16)
  | .report b => decide (b.entries.length ≤ 255)
  | .claim b => decide (b.items.length ≤ 255)
  | .deposit b => decide (b.chars.length ≤ 2039)
  | _ => true

/-- The bytes of a body whose layout lists fields by width in bytes and value, in order, each most significant byte
first (section 1.8). -/
def laidOut (fields : List (Nat × Nat)) : List Byte := fields.flatMap (fun f => bytesOf f.1 f.2)

/-! ### Where an operation that takes time stands -/

/-- The RECOVERY sweep comes next to the message of a slot, and then stands at `p1` (R178): the next of the pending list
it is in, or the head of the first pending list from its index on. -/
def State.recoveryReaches (s : State) (p : RecoveryPos) (slot : Nat) (p1 : RecoveryPos) : Prop :=
  (∃ rest, p.rest = slot :: rest ∧ p1 = { p with rest := rest }) ∨
    (p.rest = [] ∧ ∃ i rest, p.next ≤ i ∧ (s.sub i).state ≠ .vacant ∧ (s.sub i).pendingList = slot :: rest ∧
      (∀ j, p.next ≤ j → j < i → (s.sub j).state = .vacant ∨ (s.sub j).pendingList = []) ∧ p1 = ⟨i + 1, rest⟩)

/-- The RECOVERY sweep has treated every message (R179). -/
def State.recoveryOver (s : State) (p : RecoveryPos) : Prop :=
  p.rest = [] ∧ ∀ j, p.next ≤ j → (s.sub j).state = .vacant ∨ (s.sub j).pendingList = []

/-- What each of the three sources of R15 offers: the frame, its class and its turn. -/
def State.sources (s : State) : List (OnAir × Nat × Nat) :=
  (match s.claims.slot, s.claims.openWin with
    | .prepared _, some w => [(.claim false, 1, w.sent)]
    | _, _ => []) ++
  (match s.span.notices with
    | n :: _ => [(.notice, noticeClass n, 0)]
    | [] => []) ++
  (if s.queue.send = some .ready then [(.record, 5, 0)] else [])

/-! ### Invariants -/

/-- The slots of the store (R61): message records and the free pool share the 8,192 slots, each slot in one of them. -/
def SlotsConserved (s : State) : Prop :=
  tableSorted s.store.msgs = true ∧ s.store.pool.released.Nodup ∧
    (∀ x ∈ s.store.pool.released, x < s.store.pool.fresh ∧ tableFind s.store.msgs x = none) ∧
    (∀ p ∈ s.store.msgs, p.1 < s.store.pool.fresh) ∧
    s.store.msgs.length + s.store.pool.released.length = s.store.pool.fresh ∧
    s.store.pool.fresh ≤ Config.slotCount

/-- The charge record queue (R160, R161): at most 1,024 records, carrying consecutive numbers in queue order up to the
next record number. -/
def RecordsNumbered (s : State) : Prop :=
  s.queue.records.length ≤ Config.queueCap ∧ s.queue.nextNumber < 16777216 ∧
    (∀ (i : Nat) (r : Record), s.queue.records[i]? = some r →
      r.number < 16777216 ∧ (r.number + (s.queue.records.length - i)) % 16777216 = s.queue.nextNumber)

/-- The high mark of the setup copy is at most 1,000 (section 10.1). -/
def HighMarkBelowCap (s : State) : Prop := s.unit.setup.highMark ≤ 1000

/-- An air time lies in its range (section 4 of spec/00). -/
def AirTime.inRange (a : AirTime) : Bool := decide (a.lap ≤ 65535) && decide (a.window ≤ 74)

/-- The fields of the Window Clock that are present in each of its states (R84), with air times in range. -/
def ClockShape (c : Clock) : Prop :=
  (match c.state with
    | .search => c.current = none ∧ c.latest = none ∧ c.held = none ∧ c.misses = 0
    | .tracking => (∃ cur, c.current = some cur ∧ cur.begun = .mark) ∧ c.latest.isSome ∧ c.candidate = none ∧ c.misses = 0
    | .coasting => (∃ cur, c.current = some cur ∧ cur.begun = .coast) ∧ c.latest.isSome ∧ c.candidate = none ∧
        1 ≤ c.misses ∧ c.misses ≤ 3) ∧
    (∀ x, c.current = some x → x.air.inRange) ∧ (∀ x, c.candidate = some x → x.air.inRange) ∧
    (∀ x, c.held = some x → x.air.inRange) ∧ (∀ x, c.latest = some x → x.1.inRange)

/-- The notice queue (R16): at most 32 notices, each with an attempt count of at most 2. -/
def NoticesBounded (s : State) : Prop :=
  s.span.notices.length ≤ Config.noticeCap ∧ ∀ n ∈ s.span.notices, n.attempts ≤ 2

/-- The store's tables and the statistics are in canonical form, so that equal contents are equal data, and each byte of
bad parity stands in the map of R185 where what it belongs to does. -/
def State.storeWf (s : State) : Bool :=
  tableWf Subscriber.vacant s.subs && tableSorted s.store.msgs && tableWf [] s.store.due && tableWf 0 s.stats &&
    tableWf noTariff s.charge.active && tableWf noTariff s.charge.staged && tableSorted s.parity &&
    s.parity.all (fun b => decide (b.2 ∈ placesAt b.1))

/-- Every statistics counter is at most 65,535 (R183). -/
def CountersBounded (s : State) : Prop := ∀ c : Stat, s.stat c ≤ Config.max16

/-- The delayed deposit table (R40): at most 8 entries, at most one for each origin and deposit tag, each with at most
256 characters latched. -/
def DelayedTableKeyed (s : State) : Prop :=
  s.intake.table.length ≤ Config.delayedCap ∧
    s.intake.table.Pairwise (fun a b => ¬ (a.origin = b.origin ∧ a.tag = b.tag)) ∧
    ∀ d ∈ s.intake.table, d.latched.chars.length ≤ 256

/-- A composition is in flight or a claim is prepared. -/
def ClaimSlot.busy : ClaimSlot → Bool
  | .composing _ => true
  | .prepared _ => true
  | _ => false

/-- A composition or prepared claim stands only with the Window Clock in TRACKING and a window OPEN, in SERVICE (R98,
R103, R118); between steps no test of R103 is outstanding. Before SERVICE, from the setup block's acceptance on and
through the RECOVERY sweep, the claim slot is IDLE (R121). -/
def ClaimsNeedTracking (s : State) : Prop :=
  s.claims.startTest = false ∧
    (s.unit.engine = .service → s.claims.slot.busy = true → s.clock.state = .tracking ∧ s.claims.openWin.isSome) ∧
    (s.unit.engine = .recovery → s.claims.slot = .idle) ∧
    (s.unit.engine = .init → s.unit.initPhase = .sweep → s.claims.slot = .idle)

end Sys2Proof.Machine
end

