-- ==== Sys2Proof/WellFormed.lean ====
section
/-! DEFINITION. Well-formed commands: the operands that can reach the engine under the command's row. An ill-formed
command still runs (its meaning is total); it stands for nothing that the Span, the card or the engine's own sequencer
can give. -/

namespace Sys2Proof

open Machine

/-- A MARK's body carries the 16 capacities of its layout (section 1.8). -/
def MarkBody.wf (b : MarkBody) : Bool := decide (b.caps.length = 16)

/-- A REPORT's entry count is one byte (section 1.8). -/
def ReportBody.wf (b : ReportBody) : Bool := decide (b.entries.length ≤ 255)

/-- A CLAIM's item count is one byte, and its body at most 2,048 bytes (section 1.8, R2). -/
def ClaimBody.wf (b : ClaimBody) : Bool := decide (b.items.length ≤ 255)

/-- A DEPOSIT's characters fit the longest body (section 1.8). -/
def DepositBody.wf (b : DepositBody) : Bool := decide (b.chars.length ≤ 2039)

/-- The setup line gives at most the 128 bytes read (R173). -/
def SetupLine.wf : SetupLine → Bool
  | .answers l => decide (l.length ≤ 128)
  | .silent => true
  | .heldLow => true

/-- The body bytes received are those declared, unless the frame was cut short or its length field ended reception (R7,
R8). -/
def WireFrame.wf (f : WireFrame) : Bool :=
  frameTooLong f || (if f.cut then decide (f.body.length ≤ f.len.toNat) else decide (f.body.length = f.len.toNat))

/-- A frame that fails R7: cut short, or with a bad check. -/
def WireFrame.bad (f : WireFrame) : Bool := !frameTooLong f && (frameShort f || checkFails f)

/-- A frame that passes R7 and R8. -/
def WireFrame.sound (f : WireFrame) : Bool :=
  !frameTooLong f && !frameShort f && !checkFails f && !decide (f.head.cls = 7) && !decide (f.head.src = 31)

/-- A frame whose header fails R8: its length field, or, with a good check, its class or source. -/
def WireFrame.headBad (f : WireFrame) : Bool :=
  frameTooLong f || (!frameShort f && !checkFails f && (decide (f.head.cls = 7) || decide (f.head.src = 31)))

/-- Well-formed commands. -/
def Instr.wf : Instr → Bool
  | .resetAsserted _ => true
  | .resetReleased => true
  | .setupReadComplete _ l _ => l.wf
  | .initSweepComplete => true
  | .recoverySweepStep _ => true
  | .recoverySweepComplete _ => true
  | .frameBad _ f => f.wf && f.bad
  | .headerMalformed _ f => f.wf && f.headBad
  | .frameNotTaken _ f => f.wf && f.sound
  | .idleGapEnd _ _ => true
  | .sendFault _ => true
  | .noticeAckSlot _ _ => true
  | .recordAckSlot _ _ => true
  | .resendGapExpiry => true
  | .stallTimerExpiry => true
  | .faultTimerExpiry => true
  | .mark _ _ b => b.wf
  | .coastExpiry _ => true
  | .compositionStep _ => true
  | .compositionEnd _ => true
  | .claimReportedSent _ => true
  | .claim _ _ b => b.wf
  | .report _ _ b => b.wf
  | .heard _ _ _ => true
  | .deposit _ _ b => b.wf
  | .delayedDepositRun _ => true
  | .discardTimerExpiry o _ => decide (o ≠ 31)
  | .recall _ _ _ => true
  | .waitListServe _ => true
  | .loadSet _ _ _ => true
  | .loadVacate _ _ _ => true
  | .tariffStage _ _ _ => true
  | .credit _ _ _ => true
  | .periodClose _ _ _ => true
  | .periodSweepStep _ => true
  | .periodSweepComplete _ => true
  | .queryStats _ _ _ _ => true
  | .queryStatsClear _ _ _ _ => true
  | .querySubscriber _ _ _ => true
  | .queryMessage _ _ _ => true
  | .queryClock _ _ _ => true
  | .restart _ _ => true
  | .misdirectedFrame _ f => f.wf && f.sound && (kindOfCode f.kind).isSome
  | .malformedFrameBody _ f => f.wf && f.sound && (kindOfCode f.kind).isSome
  | .loadOtherOperation _ _ op _ => decide (op ≠ 0) && decide (op ≠ 1)

end Sys2Proof
end

