-- ==== Sys2Proof/Certificates/Slice0/Obligations.lean ====
section
/-! DEFINITION. Statements for the provers. -/

open Sys2Proof Sys2Proof.Machine

/-! ### Steps and frames -/

/-- One step runs the command at the front of the queue, with the queue's rest. -/
def Obligations.StepRunsCommandAtFront : Prop :=
  ∀ (c : Instr) (rest : List Instr) (s : State), step (s.withPending (c :: rest)) = exec c (s.withPending rest)

/-- A frame laid out as its kind's layout says, with a good check, is heard as the command of its kind: the receiver's
reading of the bytes drops no field and moves none. -/
def Obligations.FrameOnWireActsAsItsCommand : Prop :=
  ∀ (h : Header) (e : Env) (b : Body) (c : Instr) (s : State),
    bodyFits b = true → commandOf h e b = some c → exec c s = .next (s.hearWire e (frameOf h b))

/-- While the Span Port does not receive (outside SERVICE, or before the first idle gap in it), every frame command
leaves the engine as it was: the acknowledgement slot is not driven, and nothing is counted. -/
def Obligations.FramesIgnoredUnlessReceiving : Prop :=
  ∀ (h : Header) (e : Env) (b : Body) (c : Instr) (f : WireFrame) (s : State), s.listening = false →
    (commandOf h e b = some c →
      exec c s = .next { s with now := max s.now e.moment, span := { s.span with ackDriven := false } }) ∧
    (∀ d ∈ [Instr.frameBad e f, .headerMalformed e f, .frameNotTaken e f, .misdirectedFrame e f,
        .malformedFrameBody e f],
      exec d s = .next { s with now := max s.now e.moment, span := { s.span with ackDriven := false } })

/-- FRAME_BAD and HEADER_MALFORMED: a frame with a bad check, or cut short, is dropped and counted as bad; one with a
good check whose class is 7 or source 31, or one whose length field is over 2,048, is dropped and counted as malformed,
and the last stops reception until the next idle gap. Nothing else changes, and no acknowledgement slot is driven. -/
def Obligations.FailedFramesDropped : Prop :=
  ∀ (e : Env) (f : WireFrame) (s : State), s.listening = true →
    (f.len.toNat ≤ 2048 → (frameShort f = true ∨ checkFails f = true) →
      exec (.frameBad e f) s =
        .next (State.bump { s with now := max s.now e.moment, span := { s.span with ackDriven := false } } .framesBad)) ∧
    (2048 < f.len.toNat →
      exec (.headerMalformed e f) s =
        .next (State.bump { s with
          now := max s.now e.moment, span := { s.span with ackDriven := false, waitingGap := true } }
          .framesMalformed)) ∧
    (f.len.toNat ≤ 2048 → frameShort f = false → checkFails f = false → (f.head.cls = 7 ∨ f.head.src = 31) →
      exec (.headerMalformed e f) s =
        .next (State.bump { s with now := max s.now e.moment, span := { s.span with ackDriven := false } }
          .framesMalformed))

/-- FRAME_NOT_TAKEN, MISDIRECTED_FRAME and MALFORMED_FRAME_BODY, for a frame that passed R7 and R8: one addressed to
another station, or of a kind the engine does not take, changes nothing and is not counted; one of a kind it takes from
a source not listed for the kind is dropped and counted as misdirected; one from a listed source without the form of its
kind is dropped and counted as malformed. A MARK and a REPORT are listed from the air controllers alone, a CLAIM, HEARD,
DEPOSIT and RECALL from every station, a LOAD and a TARIFF STAGE from the provisioning station, a CREDIT and a PERIOD
CLOSE from the collector, and a QUERY and a RESTART from the maintenance station; a frame has the form of its kind when
its class is the kind's, its turn 0, or in a CLAIM the claim number, and every field within its range. That the clear
flag of a QUERY is at most 1 in every kind of QUERY is the model's choice (log 28). -/
def Obligations.UnwantedFramesDropped : Prop :=
  ∀ (e : Env) (f : WireFrame) (s : State), s.listening = true → f.sound = true →
    (¬ (f.head.dst.toNat = s.unit.setup.own ∨ f.head.dst = 31) ∨ kindOfCode f.kind = none →
      exec (.frameNotTaken e f) s =
        .next { s with now := max s.now e.moment, span := { s.span with ackDriven := false } }) ∧
    (∀ k, (f.head.dst.toNat = s.unit.setup.own ∨ f.head.dst = 31) → kindOfCode f.kind = some k →
      (s.sourceListed k f.head.src.toNat = false →
        exec (.misdirectedFrame e f) s =
          .next (State.bump { s with now := max s.now e.moment, span := { s.span with ackDriven := false } }
            .framesMisdirected)) ∧
      (s.sourceListed k f.head.src.toNat = true →
        (∀ b, readBody k (f.body.take f.len.toNat) = some b → formOk f.head b = false) →
        exec (.malformedFrameBody e f) s =
          .next (State.bump { s with now := max s.now e.moment, span := { s.span with ackDriven := false } }
            .framesMalformed))) ∧
  (∀ (s : State) (k : TakenKind) (src : Nat), s.sourceListed k src = true ↔
    match k with
    | .mark => src ∈ s.unit.setup.controllers
    | .report => src ∈ s.unit.setup.controllers
    | .load => src = s.unit.setup.provisioning
    | .tariffStage => src = s.unit.setup.provisioning
    | .credit => src = s.unit.setup.collector
    | .periodClose => src = s.unit.setup.collector
    | .query => src = s.unit.setup.maintenance
    | .restart => src = s.unit.setup.maintenance
    | _ => True) ∧
  ∀ (h : Header) (b : Body), formOk h b = true ↔
    match b with
    | .mark x => h.cls = 0 ∧ h.turn = 0 ∧ x.window.toNat ≤ 74 ∧ x.caps.length = 16 ∧ ∀ c ∈ x.caps, c.toNat ≤ 1023
    | .report x => h.cls = 0 ∧ h.turn = 0 ∧ x.window.toNat ≤ 74 ∧ x.entries.length ≤ 255 ∧
        ∀ y ∈ x.entries, y.station.toNat ≤ 30 ∧ y.number.toNat ≤ 15 ∧ y.accepted.toNat ≤ 16
    | .claim x => h.cls = 1 ∧ h.turn.toNat = x.number.toNat ∧ x.window.toNat ≤ 74 ∧ x.number.toNat ≤ 15 ∧
        1 ≤ x.items.length ∧ x.items.length ≤ 16 ∧
        ∀ i ∈ x.items, i.tag.toNat ≤ 2097151 ∧ i.seq.toNat ≤ 63 ∧ 2 ≤ i.cost.toNat ∧ i.cost.toNat ≤ 97 ∧
          i.zones ≠ 0 ∧ i.parts ≠ 0
    | .heard x => h.cls = 2 ∧ h.turn = 0 ∧ x.tag.toNat ≤ 2097151 ∧ x.seq.toNat ≤ 63 ∧ x.zone.toNat ≤ 15 ∧
        x.grade.toNat ≤ 15
    | .deposit x => h.cls = 4 ∧ h.turn = 0 ∧ x.priority.toNat ≤ 1 ∧ x.kind.toNat ≤ 2 ∧ x.chars.length ≤ 2039
    | .recall x => h.cls = 4 ∧ h.turn = 0 ∧ x.seq.toNat ≤ 63
    | .load _ _ => h.cls = 4 ∧ h.turn = 0
    | .tariffStage x => h.cls = 4 ∧ h.turn = 0 ∧ x.cls.toNat ≤ 7 ∧ x.rate.toNat ≤ 4095
    | .credit x => h.cls = 4 ∧ h.turn = 0 ∧ 1 ≤ x.amount.toNat
    | .periodClose _ => h.cls = 4 ∧ h.turn = 0
    | .query k x => h.cls = 6 ∧ h.turn = 0 ∧ k.toNat ≤ 3 ∧ x.clear.toNat ≤ 1 ∧
        (k.toNat = 1 → x.arg.toNat ≤ 16777215) ∧ (k.toNat = 2 → x.arg.toNat ≤ 8191) ∧
        (k.toNat = 0 ∨ k.toNat = 3 → x.arg.toNat = 0)
    | .restart => h.cls = 6 ∧ h.turn = 0

/-! ### Setup, start and restart -/

/-- RESET_ASSERTED and RESET_RELEASED: an assertion of at least 10 µs abandons what the engine was doing, clears every
fault cause, the line timer and the last error address, releases the outputs, and leaves the Claim Builder IDLE with no
window; a shorter pulse has no effect; the release after it starts the setup read in INIT. The time base goes on from
where it stood (the model's choice, log 4), the clock and the rest of the chip's state stand as they were until the
setup block has been read (the model's choice, log 46), and a release that no assertion came before leaves the state as
it is (the model's choice, log 6). -/
def Obligations.ResetAssertedThenReleased : Prop :=
  (∀ (n : Nat) (s : State), 10 ≤ n →
    exec (.resetAsserted n) s =
      .next { s with
        unit := { s.unit with resetLow := true, recovery := none },
        faults := { causes := ⟨false, false, false, false, false⟩, lineEnd := none, lastError := none },
        span := { s.span with onAir := none, ackDriven := false },
        claims := { openWin := none, closedWin := none, fill := List.replicate 16 0,
                    arbiter := ⟨⟨0, 0, 0⟩, none, none⟩, blocked := [], slot := .idle, startTest := false } }) ∧
  (∀ (n : Nat) (s : State), n < 10 → exec (.resetAsserted n) s = .next s) ∧
  (∀ s : State, s.unit.resetLow = true →
    exec .resetReleased s =
      .next { s with unit := { s.unit with resetLow := false, engine := .init, initPhase := .setupRead } }) ∧
  (∀ s : State, s.unit.resetLow = false → exec .resetReleased s = .next s)

/-- SETUP_READ_COMPLETE: a block that passes the checks is kept, every block's on-chip state takes its cold reset
values, the store is not touched but for what the chip holds of it, and the INIT sweep starts. One that fails them halts
the engine: SETUP_BAD latched and counted, the FAULT line asserted, the clock in SEARCH with its cold values, its seven
counters at 0, the Claim Builder IDLE with no window, and no copy made; that the rest of the chip's state then stays is
the model's choice (log 22). The copy holds each field read from its place in the block, most significant byte first,
each zone added to its own neighbour mask; a byte the memory does not answer reads as 255. During the read the engine
sends on the setup line the transfer of R186, the 128 bytes acknowledged but the last, and in no other state anything.
-/
def Obligations.SetupReadAcceptsOrHalts : Prop :=
  (∀ s : State,
    (s.unit.engine = .init → s.unit.initPhase = .setupRead → s.unit.resetLow = false →
      s.setupLine = [.start, .device false, .word 0, .start, .device true] ++
        (List.range 128).map (fun i => .read (decide (i < 127)))) ∧
    (¬ (s.unit.engine = .init ∧ s.unit.initPhase = .setupRead ∧ s.unit.resetLow = false) → s.setupLine = [])) ∧
  (∀ line : SetupLine, (setupBytes line).length = 128 ∧ ∀ i < 128, (setupBytes line).getD i 0 = match line with
    | .answers l => (l.getD i none).getD 255
    | .silent => 255
    | .heldLow => 0) ∧
  (∀ (bytes : List Byte) (place : Nat), bytes.length = 128 →
    let byte (i : Nat) : Nat := (bytes.getD (place + i) 0).toNat
    (place < 128 → fieldAt bytes place 1 = byte 0) ∧
    (place + 1 < 128 → fieldAt bytes place 2 = 256 * byte 0 + byte 1) ∧
    (place + 2 < 128 → fieldAt bytes place 3 = 65536 * byte 0 + 256 * byte 1 + byte 2)) ∧
  (∀ bytes : List Byte,
    let c := setupOf bytes
    let byte (place : Nat) : Nat := fieldAt bytes place 1
    let feed (place : Nat) : FeedSetting := ⟨if byte place = 0 then .high else .low, byte (place + 1)⟩
    c.own = byte 0 ∧ c.collector = byte 1 ∧ c.provisioning = byte 2 ∧ c.maintenance = byte 3 ∧
    c.controllers = (if byte 4 = 2 then [byte 5, byte 6] else [byte 5]) ∧
    c.windows = (List.range 4).map (fun k => ⟨fieldAt bytes (7 + 5 * k) 3, fieldAt bytes (10 + 5 * k) 2⟩) ∧
    c.ackSpan = byte 27 ∧ c.maxSends = byte 28 ∧ c.lifetime = byte 29 ∧ c.freshSpan = byte 30 ∧
    c.feeds = ⟨feed 31, feed 33, feed 35⟩ ∧ c.holdMark = fieldAt bytes 37 2 ∧ c.highMark = fieldAt bytes 39 2 ∧
    c.discardTime = byte 41 ∧ c.neighbours.length = 16 ∧
    ∀ z < 16, ∀ y < 16, hasZone (c.neighbours.getD z 0) y =
      (decide (y = z) || (fieldAt bytes (42 + 2 * z) 2).testBit y)) ∧
  ∀ (e : Env) (line : SetupLine) (straps : BitVec 5) (s : State),
    s.unit.engine = .init → s.unit.initPhase = .setupRead → s.unit.resetLow = false →
    let claims : ClaimBuilder :=
      { openWin := none, closedWin := none, fill := List.replicate 16 0, arbiter := ⟨⟨0, 0, 0⟩, none, none⟩,
        blocked := [], slot := .idle, startTest := false }
    let cold : Clock := { state := .search, current := none, misses := 0, candidate := none, held := none,
                          latest := none, serial := s.clock.serial }
    (setupOk (setupBytes line) straps = true →
      exec (.setupReadComplete e line straps) s =
        .next { s with
          now := max s.now e.moment,
          unit := { s.unit with setup := setupOf (setupBytes line), initPhase := .sweep },
          stats := [],
          span := { notices := [], onAir := none, frame := none, waitingGap := true, ackDriven := s.span.ackDriven },
          intake := { table := [], runDue := false },
          store := { s.store with cursors := ⟨none, none, none⟩, serveDue := false },
          clock := cold, claims := claims,
          tracker := { entries := [], reservations := [], deadlines := [] },
          queue := { s.queue with send := none, stallFrom := none } }) ∧
    (setupOk (setupBytes line) straps = false →
      ∃ t, exec (.setupReadComplete e line straps) s = .next t ∧ t.faultLine = true ∧
        (∀ c ∈ [Stat.marksEarly, .marksLate, .marksOutOfStep, .marksMissed, .clockJumps, .clockAcquired, .clockLosses],
          t.stat c = 0) ∧
        t = State.bump { s with
          now := max s.now e.moment,
          unit := { s.unit with engine := .halted },
          stats := s.stats.filter (fun p => decide (p.1 ∉ [Stat.marksEarly, .marksLate, .marksOutOfStep, .marksMissed,
            .clockJumps, .clockAcquired, .clockLosses].map statKey)),
          faults := { s.faults with causes := { s.faults.causes with setupBad := true },
                                    lineEnd := some (max s.now e.moment + 200) },
          clock := cold, claims := claims } .latchSetupBad)

/-- The setup block is accepted exactly when its sum agrees, its station number is that of the straps, every field that
is read lies in its range, no two number windows own a subscriber number in common, and the counts add to at most
32,768. A memory that does not answer, one that answers no byte, and a setup line held low give a block that is rejected
whatever the straps; straps that read 31 reject every block. -/
def Obligations.SetupBlockAcceptedExactly : Prop :=
  (∀ (bytes : List Byte) (straps : BitVec 5), bytes.length = 128 →
    (setupOk bytes straps = true ↔
      fieldAt bytes 126 2 = ((bytes.take 126).map BitVec.toNat).sum % 65536 ∧
      fieldAt bytes 0 1 = straps.toNat ∧
      (∀ place ∈ [0, 1, 2, 3, 5], fieldAt bytes place 1 ≤ 30) ∧
      (fieldAt bytes 4 1 = 1 ∨ fieldAt bytes 4 1 = 2) ∧ (fieldAt bytes 4 1 = 2 → fieldAt bytes 6 1 ≤ 30) ∧
      (∀ k < 4, fieldAt bytes (10 + 5 * k) 2 ≤ 32768) ∧
      (1 ≤ fieldAt bytes 27 1 ∧ fieldAt bytes 27 1 ≤ 4) ∧ (1 ≤ fieldAt bytes 28 1 ∧ fieldAt bytes 28 1 ≤ 15) ∧
      1 ≤ fieldAt bytes 29 1 ∧ 1 ≤ fieldAt bytes 30 1 ∧
      (∀ place ∈ [31, 33, 35], fieldAt bytes place 1 ≤ 1) ∧
      (∀ place ∈ [32, 34, 36], 1 ≤ fieldAt bytes place 1 ∧ fieldAt bytes place 1 ≤ 8) ∧
      fieldAt bytes 37 2 ≤ 1024 ∧ (512 ≤ fieldAt bytes 39 2 ∧ fieldAt bytes 39 2 ≤ 1000) ∧
      (2 ≤ fieldAt bytes 41 1 ∧ fieldAt bytes 41 1 ≤ 60) ∧
      (∀ j k n, j < k → k < 4 → n ≤ 16777215 →
        ¬ (fieldAt bytes (7 + 5 * j) 3 ≤ n ∧ n < fieldAt bytes (7 + 5 * j) 3 + fieldAt bytes (10 + 5 * j) 2 ∧
           fieldAt bytes (7 + 5 * k) 3 ≤ n ∧ n < fieldAt bytes (7 + 5 * k) 3 + fieldAt bytes (10 + 5 * k) 2)) ∧
      fieldAt bytes 10 2 + fieldAt bytes 15 2 + fieldAt bytes 20 2 + fieldAt bytes 25 2 ≤ 32768)) ∧
  (∀ straps : BitVec 5, setupOk (setupBytes .silent) straps = false ∧ setupOk (setupBytes .heldLow) straps = false ∧
    setupOk (setupBytes (.answers [])) straps = false) ∧
  ∀ bytes : List Byte, setupOk bytes 31 = false

/-- INIT_SWEEP_COMPLETE: the store has its cold values, every byte of it with good parity, and the engine enters SERVICE
with last start COLD. That the sweep writes without reading, so that no bad byte is noted, is the model's choice (log
7). -/
def Obligations.InitSweepEntersService : Prop :=
  ∀ s : State, s.unit.engine = .init → s.unit.initPhase = .sweep → s.unit.resetLow = false →
    ∃ t, exec .initSweepComplete s = .next t ∧
      t = { s with
        unit := { s.unit with engine := .service, lastStart := .cold },
        subs := [], store := MsgStore.cold, charge := Tariffs.cold, queue := RecordQueue.cold,
        clock := { s.clock with serial := 0 }, parity := [] } ∧
      poolCount t.store.pool = 8192 ∧ poolFront t.store.pool = some 0 ∧ (∀ slot, t.msg slot = none) ∧
      (∀ key, t.dueList key = []) ∧ t.store.waitList = [] ∧
      (∀ index, t.sub index =
        { state := .vacant, airTag := 0, homeWindow := 0, pager := .tone, twoWay := false, maxParts := 1,
          repeatCount := 1, plan := .prepaid, tariffClass := 0, pendingLimit := 1, balance := 0, held := 0,
          threshold := 0, armed := false, lastCredit := none, nextSeq := 0, pendingList := [], lastHeard := none,
          bank0 := ⟨0, 0, 0, 0⟩, bank1 := ⟨0, 0, 0, 0⟩, mark := .b0 }) ∧
      t.charge.set = false ∧ t.charge.loaded = 0 ∧ t.charge.marks = 0 ∧
      (∀ c, tableGet t.charge.active noTariff c = ⟨0, 0, 0⟩ ∧ tableGet t.charge.staged noTariff c = ⟨0, 0, 0⟩) ∧
      t.queue.records = [] ∧ t.queue.nextNumber = 0 ∧ t.queue.period = none ∧ t.queue.selector = .b0 ∧
      t.queue.sweep = none

/-- RESTART taken: RECOVERY with last start WARM; every block's on-chip state is cleared and every statistics counter is
0; the store, the setup copy, the fault causes, the last error address, the line timer and the window serial are kept;
the acknowledgement slot is driven when the frame is addressed to the engine. Bad parity met in reading the serial back
is noted after the clearing (log 7), and a departure report not yet served is dropped (log 39). -/
def Obligations.RestartEntersRecovery : Prop :=
  ∀ (h : Header) (e : Env) (s : State), s.takes h .restart = true →
    exec (.restart h e) s =
      .next (State.noteReads { s with
        now := max s.now e.moment,
        unit := { s.unit with engine := .recovery, lastStart := .warm, recovery := some ⟨0, []⟩ },
        stats := [],
        span := { notices := [], onAir := none, frame := none, waitingGap := true,
                  ackDriven := decide (h.dst.toNat = s.unit.setup.own) },
        intake := { table := [], runDue := false },
        store := { s.store with cursors := ⟨none, none, none⟩, serveDue := false },
        clock := { state := .search, current := none, misses := 0, candidate := none, held := none, latest := none,
                   serial := s.clock.serial },
        claims := { openWin := none, closedWin := none, fill := List.replicate 16 0,
                    arbiter := ⟨⟨0, 0, 0⟩, none, none⟩, blocked := [], slot := .idle, startTest := false },
        tracker := { entries := [], reservations := [], deadlines := [] },
        queue := { s.queue with send := none, stallFrom := none } } [.serial])

/-- RECOVERY_SWEEP_STEP: the treatment of the next message, row by row of the table of R178; a QUEUED or RESTING message
without a claim link is not written, and an AWAITING one whose sends read above the max sends is finished as one at them
(the model's choice, log 45). Bad parity is noted in the subscriber records passed on the way to it, in its record and
in its subscriber's (the model's choice, log 7). -/
def Obligations.RecoverySweepTreatsMessage : Prop :=
  ∀ (e : Env) (s : State) (p p1 : RecoveryPos) (slot : Nat) (m : Msg),
    s.unit.engine = .recovery → s.unit.resetLow = false → s.unit.recovery = some p → tableSorted s.subs = true →
    s.recoveryReaches p slot p1 → s.msg slot = some m →
    let u := (s.advance e.moment).withUnit { s.unit with recovery := some p1 }
    let passed : List StorePlace := (List.range' p.next (p1.next - p.next)).map StorePlace.subscriber
    let bare : Msg := { m with link := none }
    let between : List Entry :=
      if (s.sub m.subIndex).twoWay then s.tracker.entries ++ [⟨(s.sub m.subIndex).airTag, m.seq, slot, .between⟩]
      else s.tracker.entries
    ∃ t : State, exec (.recoverySweepStep e) s =
        .next (t.noteReads (passed ++ [.message slot, .subscriber m.subIndex])) ∧
      (m.state = .queued → t = if m.link = none then u else u.putMsg slot bare) ∧
      (∀ nb, m.state = .resting nb →
        t = (if m.link = none then u else u.putMsg slot bare).withTracker { s.tracker with entries := between }) ∧
      (∀ before, m.state = .claimed before → m.recallMark = true → t = u.finishUnlinked slot bare .cancelled) ∧
      (m.state = .claimed .queued → m.recallMark = false → t = u.putMsg slot { bare with state := .queued }) ∧
      (∀ nb, m.state = .claimed (.resting nb) → m.recallMark = false →
        t = (u.putMsg slot { bare with state := .resting nb }).withTracker { s.tracker with entries := between }) ∧
      (m.state = .awaiting → m.sends < s.unit.setup.maxSends → m.feed = none → tableSorted s.store.due = true →
        let key := dueKey (s.sub m.subIndex).homeWindow .retry
        t.msg slot = some { bare with state := .resting s.clock.serial, feed := some .retry } ∧
        t.dueList key = s.dueList key ++ [slot] ∧ (∀ k, k ≠ key → t.dueList k = s.dueList k) ∧
        t.tracker = { s.tracker with
          entries := s.tracker.entries ++ [⟨(s.sub m.subIndex).airTag, m.seq, slot, .between⟩] } ∧
        (∀ k, k ≠ slot → t.msg k = s.msg k) ∧
        KeptBut [.now, .unit, .faults, .stats, .store, .claims, .tracker, .parity] s t) ∧
      (m.state = .awaiting → ¬ m.sends < s.unit.setup.maxSends →
        t = u.finishUnlinked slot bare (if m.held = 0 then .undelivered else .partly)) ∧
      (∀ o f, m.state = .finishing o f .claim → t = (u.putMsg slot bare).settle slot) ∧
      (∀ o f, m.state = .finishing o f .queue → t = u)

/-- RECOVERY_SWEEP_COMPLETE: with every message treated, the engine enters SERVICE, the head record becomes READY with
its stall timer at 0, and a period sweep resumes where it stood; while a message remains, nothing happens (the model's
choice, log 6). Bad parity is noted in the records left, the queue's pointers and the period state (log 7). -/
def Obligations.RecoverySweepCompleteEntersService : Prop :=
  ∀ (e : Env) (s : State) (p : RecoveryPos),
    s.unit.engine = .recovery → s.unit.resetLow = false → s.unit.recovery = some p → tableSorted s.subs = true →
    (s.recoveryOver p →
      exec (.recoverySweepComplete e) s =
        .next (State.noteReads { s.advance e.moment with
          unit := { s.unit with engine := .service, recovery := none },
          queue := { s.queue with
            send := if s.queue.records = [] then none else some .ready,
            stallFrom := if s.queue.records = [] then none else some (max s.now e.moment),
            sweep := s.queue.sweep.map (fun w => { w with paused := false }) } }
          ((List.range' p.next (32768 - p.next)).map StorePlace.subscriber ++ [.pointers, .period]))) ∧
    (¬ s.recoveryOver p → exec (.recoverySweepComplete e) s = .next s)

/-- The FAULT line: asserted exactly while a cause is latched or the line timer runs, and RESET is not low; a latching
event latches its cause and restarts the timer at 200 ms, whichever cause it is; FAULT_TIMER_EXPIRY stops the timer, and
the line is then asserted exactly while a cause is latched. That the expiry is believed whenever the timer runs, the
time base moving to its end, is the model's choice (log 5). Each latching event raises its cause's latch count by 1,
saturating, and no other counter. A byte of the store read with bad parity latches STORE_PARITY, counts STORE_ERRORS and
becomes the last error address, the last of several; nothing else changes, and the bytes stay bad until their place is
written, from which on a read of it finds none. A read of places finds every bad byte of them, in ascending order of
address, and a write of places is preceded by a read of those but characters, records and tariff entries; which places a
rule reads, and that order, are the model's choice (log 7). A byte that goes bad is found by the next read of the place
it belongs to. -/
def Obligations.FaultLineAndTimer : Prop :=
  (∀ s : State, s.faultLine = true ↔
    s.unit.resetLow = false ∧ ((∃ c, causesHas s.faults.causes c = true) ∨ ∃ t, s.faults.lineEnd = some t ∧ s.now < t)) ∧
  (∀ (s : State) (c : Cause), s.unit.resetLow = false →
    (s.latch c).faultLine = true ∧ (s.latch c).faults.lineEnd = some (s.now + 200) ∧
    (s.latch c).faults.lastError = s.faults.lastError ∧
    ∀ d, causesHas (s.latch c).faults.causes d = (decide (d = c) || causesHas s.faults.causes d)) ∧
  (∀ (s : State) (t : Nat), s.unit.resetLow = false → s.faults.lineEnd = some t →
    ∃ u, exec .faultTimerExpiry s = .next u ∧
      u = { s with now := max s.now t, faults := { s.faults with lineEnd := none } } ∧
      (u.faultLine = true ↔ ∃ c, causesHas s.faults.causes c = true)) ∧
  (∀ (s : State) (c : Cause), tableSorted s.stats = true →
    let count : Stat := match c with
      | .setupBad => .latchSetupBad
      | .clockLost => .latchClockLost
      | .recordsStalled => .latchRecordsStalled
      | .storeParity => .latchStoreParity
      | .outstandingFull => .latchOutstandingFull
    (s.latch c).stat count = min 65535 (s.stat count + 1) ∧ ∀ k, k ≠ count → (s.latch c).stat k = s.stat k) ∧
  (∀ s : State, s.noteParity [] = s) ∧
  (∀ (s : State) (l : List Nat) (a : Nat), a < 4768900 →
    let before := s.noteParity l
    let latched := before.latch .storeParity
    s.noteParity (l ++ [a]) =
      State.bump { latched with faults := { latched.faults with lastError := some a } } .storeErrors) ∧
  (∀ (s : State) (places : List StorePlace),
    s.noteReads places = s.noteParity ((s.parity.filter (fun b => decide (b.2 ∈ places))).map Prod.fst) ∧
    KeptBut [.faults, .stats] s (s.noteReads places) ∧ KeptBut [.faults, .stats, .parity] s (s.rewrite places) ∧
    (s.rewrite places).parity = s.parity.filter (fun b => decide (b.2 ∉ places)) ∧
    (let first := places.filter (fun p => match p with
        | .character _ _ => false
        | .record _ => false
        | .active _ => false
        | .staged _ => false
        | _ => true)
     (s.rewrite places).faults = (s.noteReads first).faults ∧ (s.rewrite places).stats = (s.noteReads first).stats) ∧
    (s.rewrite places).noteReads places = s.rewrite places) ∧
  (∀ (s : State) (slot : Nat), s.readsOf slot = StorePlace.message slot ::
    ((s.msg slot).map (fun m => StorePlace.subscriber m.subIndex)).toList) ∧
  (∀ (s : State) (a : Nat) (v : StoreValue), tableSorted s.parity = true → a < 4768900 →
    s.placeOf v ∈ placesAt a →
    let t := (s.goesBad a v).noteReads [s.placeOf v]
    t.faults.causes.storeParity = true ∧ t.faults.lastError.isSome = true ∧ tableFind t.parity a = some (s.placeOf v) ∧
    (s.parity = [] → t.faults.lastError = some a))

/-! ### Sending on the Span -/

/-- IDLE_GAP_END in SERVICE: reception begins, and of the frames that the prepared claim, the notice queue and the
record queue offer, the one of lowest class contends; when its key is not above the lowest rival key (on equal keys the
model lets it, log 16) it goes on the medium, laid out as it then stands; when it is above, it stays where it was. With
a frame of its own on the medium, or nothing to offer, the engine does not contend. Bad parity is noted in what the
frame is laid out from, won or lost: the queue's pointers and head entry for a record, the items' messages and
subscribers for a CLAIM (log 7). A frame of the engine's carries its kind's class, its own number, turn 0 but in a
CLAIM, its body's length and a check that a receiver finds good; its body holds the fields of its layout in their order
and widths, most significant byte first (the code bytes of a LOAD ANSWER and the contents of a QUERY ANSWER are free
values, log 13). An item whose slot reads FREE gives a CLAIM no bytes, and whether the record queue offers is not read
from its pointers (the model's choices, log 48). -/
def Obligations.IdleGapSendsLowestClass : Prop :=
  (∀ (e : Env) (rival : Option (BitVec 12)) (s : State), s.unit.engine = .service → s.unit.resetLow = false →
    let u : State := { s with now := max s.now e.moment, span := { s.span with waitingGap := false } }
    (s.span.onAir.isSome = true → exec (.idleGapEnd e rival) s = .next u) ∧
    (s.span.onAir = none → s.sources = [] → exec (.idleGapEnd e rival) s = .next u) ∧
    (s.span.onAir = none → s.sources ≠ [] → ∃ x ∈ s.sources, (∀ y ∈ s.sources, y = x ∨ x.2.1 < y.2.1) ∧
      let v := u.noteReads (match x.1, s.claims.slot with
        | .record, _ => [.pointers, .record (s.queue.head % 1024)]
        | .claim _, .prepared c => c.items.flatMap (fun i => s.readsOf i.slot)
        | _, _ => [])
      ((∀ r, rival = some r → x.2.1 * 512 + x.2.2 * 32 + s.unit.setup.own ≤ r.toNat) →
        exec (.idleGapEnd e rival) s =
          .next { v with
            span := { v.span with onAir := some x.1, frame := s.frameFor x.1 },
            queue := if x.1 = .record then { v.queue with send := some .onAir } else v.queue }) ∧
      (∀ r, rival = some r → r.toNat < x.2.1 * 512 + x.2.2 * 32 + s.unit.setup.own →
        exec (.idleGapEnd e rival) s = .next v))) ∧
  (∀ (s : State) (o : OnAir) (f : WireFrame), s.frameFor o = some f → s.unit.setup.own ≤ 30 →
    f.head.src.toNat = s.unit.setup.own ∧ headMalformed f.head = false ∧
    (f.body.length ≤ 2048 → f.len.toNat = f.body.length ∧ frameShort f = false ∧ checkFails f = false) ∧
    (o = .notice → ∃ n rest, s.span.notices = n :: rest ∧ f.head.turn = 0 ∧ f.head.dst = BitVec.ofNat 5 n.dest ∧
      f.head.cls.toNat = (match n.body with
        | .queryAnswer _ _ _ => 6
        | _ => 3) ∧ f.kind.toNat = noticeCode n.body ∧ f.body = noticeBytes n.body) ∧
    (o = .record → ∃ r rest, s.queue.records = r :: rest ∧ f.head.turn = 0 ∧
      f.head.dst = BitVec.ofNat 5 s.unit.setup.collector ∧ f.head.cls = 5 ∧ f.kind.toNat = recordCode r.body ∧
      f.body = recordBytes r) ∧
    (∀ a, o = .claim a → ∃ c w, s.claims.slot = .prepared c ∧ s.claims.openWin = some w ∧
      f.head.turn = BitVec.ofNat 4 w.sent ∧ f.head.dst = 31 ∧ f.head.cls = 1 ∧ f.kind = 8 ∧
      f.body = laidOut [(2, w.air.lap), (1, w.air.window), (1, w.sent), (1, c.items.length)] ++
        c.items.flatMap (fun i => ((s.msg i.slot).map (fun m => laidOut [(3, (s.sub m.subIndex).airTag), (1, m.seq),
          (1, i.cost), (2, i.zones.toNat), (1, i.parts.toNat)])).getD []))) ∧
  (∀ n v, (bytesOf n v).length = n ∧ numOf (bytesOf n v) = v % 256 ^ n) ∧
  (let kind (k : Kind) : Nat := [Kind.tone, .numeric, .text].idxOf k
   let ending (o : Ending) : Nat := [Ending.delivered, .partly, .undelivered, .expired, .cancelled, .sentBlind].idxOf o
   let flag (b : Bool) : Nat := if b then 1 else 0
   (∀ a : Answer, noticeCode (.answer a) = 24 ∧ noticeBytes (.answer a) =
     laidOut [(2, a.tag), (3, a.number), (1, [AnswerCode.accepted, .hold, .refused].idxOf a.code),
       (1, [Reason.none, .vacant, .stopped, .noTariff, .listFull, .noCredit, .busy].idxOf a.reason), (1, a.seq),
       (1, flag a.flags.degraded + 2 * flag a.flags.clamped + 4 * flag a.flags.truncated), (1, kind a.kind),
       (1, a.parts), (2, a.kept), (3, a.hold), (1, flag a.recorded)]) ∧
   (∀ number seq code held, noticeCode (.recallAnswer number seq code held) = 25 ∧
     noticeBytes (.recallAnswer number seq code held) =
       laidOut [(3, number), (1, seq), (1, [RecallCode.cancelled, .noted, .tooLate, .notFound].idxOf code),
         (1, held.toNat)]) ∧
   (∀ tag number seq o parts aired held sends charge finished,
     noticeCode (.outcome tag number seq o parts aired held sends charge finished) = 26 ∧
     noticeBytes (.outcome tag number seq o parts aired held sends charge finished) =
       laidOut [(2, tag), (3, number), (1, seq), (1, ending o), (1, parts), (1, aired.toNat), (1, held.toNat),
         (1, sends), (3, charge), (4, finished.toNat)]) ∧
   (∀ tag number code reason pending released state,
     noticeCode (.loadAnswer tag number code reason pending released state) = 27 ∧
     noticeBytes (.loadAnswer tag number code reason pending released state) =
       laidOut [(2, tag), (3, number)] ++ [loadByte code, busyByte reason] ++
         laidOut [(1, pending), (3, released), (1, [SubState.vacant, .active, .stopped].idxOf state)]) ∧
   (∀ tag number (x : CreditResult) recorded, noticeCode (.creditAnswer tag number x recorded) = 28 ∧
     noticeBytes (.creditAnswer tag number x recorded) =
       laidOut [(2, tag), (3, number),
         (1, [CreditCode.applied, .capped, .notPrepaid, .vacant, .notOwned].idxOf x.code), (3, x.applied), (3, x.excess),
         (3, x.balance), (3, x.held), (1, flag recorded)]) ∧
   (∀ tag k c, noticeCode (.queryAnswer tag k c) = 49 ∧
     noticeBytes (.queryAnswer tag k c) =
       laidOut [(2, tag), (1, [QueryKind.stats, .subscriber, .message, .clock].idxOf k),
         (1, if c = .notOwned then 1 else 0)] ++ contentsBytes c ∧ (noticeBytes (.queryAnswer tag k c)).length ≤ 420 ∧
     contentsBytes .notOwned = []) ∧
   (∀ n (u : Usage), recordCode (.usage u) = 40 ∧ recordBytes ⟨n, .usage u⟩ =
     laidOut ([(3, n), (3, u.number), (1, u.seq), (4, u.accepted.toNat), (4, u.finished.toNat), (1, ending u.ending),
       (1, if u.priority = .urgent then 1 else 0), (1, u.parts), (1, u.held.toNat), (2, u.chars), (1, u.sends),
       (3, u.charge), (3, u.hold), (1, if u.plan = .postpaid then 1 else 0), (1, u.tariffClass)] ++
       (u.balance.map (fun b => (3, b))).toList) ∧
     (recordBytes ⟨n, .usage u⟩).length = if u.balance.isSome then 33 else 30) ∧
   (∀ n number period role final (b : Bank), recordCode (.periodTotal number period role final b) = 41 ∧
     recordBytes ⟨n, .periodTotal number period role final b⟩ =
       laidOut [(3, n), (3, number), (1, period), (1, [Role.closed, .opened].idxOf role), (1, flag final),
         (2, b.messages), (3, b.characters), (2, b.sends), (4, b.charge)]) ∧
   (∀ n period count, recordCode (.periodDone period count) = 42 ∧
     recordBytes ⟨n, .periodDone period count⟩ = laidOut [(3, n), (1, period), (2, count)]) ∧
   (∀ n number balance threshold, recordCode (.lowBalance number balance threshold) = 43 ∧
     recordBytes ⟨n, .lowBalance number balance threshold⟩ =
       laidOut [(3, n), (3, number), (3, balance), (3, threshold)]))

/-- NOTICE_ACK_SLOT after the engine's notice: on a dominant slot it leaves the queue; on a recessive one its attempt
count rises, until a third sending unanswered removes it and counts NOTICES_LOST. A notice is added at the tail with an
attempt count of 0; with 32 held, the oldest not on the medium is removed, the head, or the second while the head is
being sent, and NOTICES_DROPPED is counted. -/
def Obligations.NoticeSlotAnswersHead : Prop :=
  (∀ (s : State) (dest : Nat) (body : NoticeBody),
    let added (l : List Notice) : State := { s with span := { s.span with notices := l ++ [⟨dest, body, 0⟩] } }
    (s.span.notices.length < 32 → s.addNotice dest body = added s.span.notices) ∧
    (∀ head rest, 32 ≤ s.span.notices.length → s.span.notices = head :: rest →
      (s.span.onAir ≠ some .notice → s.addNotice dest body = (added rest).bump .noticesDropped) ∧
      (s.span.onAir = some .notice → s.addNotice dest body = (added (head :: rest.drop 1)).bump .noticesDropped))) ∧
  ∀ (e : Env) (s : State) (n : Notice) (rest : List Notice), s.unit.engine = .service → s.unit.resetLow = false →
    s.span.onAir = some .notice → s.span.notices = n :: rest →
    exec (.noticeAckSlot e true) s =
      .next { s with now := max s.now e.moment, span := { s.span with onAir := none, notices := rest } } ∧
    (n.attempts < 2 → exec (.noticeAckSlot e false) s =
      .next { s with
        now := max s.now e.moment,
        span := { s.span with onAir := none, notices := { n with attempts := n.attempts + 1 } :: rest } }) ∧
    (2 ≤ n.attempts → exec (.noticeAckSlot e false) s =
      .next (State.bump { s with
        now := max s.now e.moment, span := { s.span with onAir := none, notices := rest } } .noticesLost))

/-- RECORD_ACK_SLOT, RESEND_GAP_EXPIRY and STALL_TIMER_EXPIRY: a record whose slot was dominant leaves the queue, the
next becomes head, READY, with its stall timer at 0, and the departure is reported to the Intake Unit, the Message Store
and a paused sweep; one whose slot was recessive waits 500 ms and is READY again; the stall timer latches
RECORDS_STALLED at 60 s and starts again from there. That an expiry is believed while its timer runs and moves the time
base to its end is the model's choice (log 5), and so are the moments from which the gap and the stall timer count (log
30), and that a departure finds the bad bytes of the queue's pointers and writes them again (log 7). -/
def Obligations.RecordHeadDepartsOrWaits : Prop :=
  ∀ (e : Env) (s : State), s.unit.engine = .service → s.unit.resetLow = false →
    let u := s.advance e.moment
    (s.span.onAir = some .record →
      exec (.recordAckSlot e true) s =
        .next (State.bump { State.rewrite { u with
          span := { s.span with onAir := none },
          queue := { s.queue with
            records := s.queue.records.tail, head := (s.queue.head + 1) % 1024,
            send := if s.queue.records.length ≤ 1 then none else some .ready,
            stallFrom := if s.queue.records.length ≤ 1 then none else some (max s.now e.moment),
            sweep := s.queue.sweep.map (fun w => { w with paused := false }) } } [.pointers] with
          intake := { s.intake with runDue := true },
          store := { s.store with serveDue := true } } .recordsTaken) ∧
      exec (.recordAckSlot e false) s =
        .next (State.bump { u with
          span := { s.span with onAir := none },
          queue := { s.queue with send := some (.gap (max s.now e.moment + 500)) } } .recordResends)) ∧
    (∀ t, s.queue.send = some (.gap t) →
      exec .resendGapExpiry s = .next { s with now := max s.now t, queue := { s.queue with send := some .ready } }) ∧
    (∀ t, s.queue.stallFrom = some t →
      exec .stallTimerExpiry s =
        .next (State.latch { s with
          now := max s.now (t + 60000), queue := { s.queue with stallFrom := some (t + 60000) } } .recordsStalled))

/-- SEND_FAULT: counted; for a notice it is a sending unanswered, for a record a sending not taken, and a CLAIM stays
prepared. That the record's re-send gap counts its 500 ms from the moment of the fault is the model's choice (log 30).
-/
def Obligations.SendFaultCountsForItsSource : Prop :=
  ∀ (e : Env) (s : State), s.unit.engine = .service → s.unit.resetLow = false →
    let u : State := State.bump { s with now := max s.now e.moment, span := { s.span with onAir := none } } .sendFaults
    (∀ n rest, s.span.onAir = some .notice → s.span.notices = n :: rest →
      (n.attempts < 2 → exec (.sendFault e) s =
        .next { u with span := { u.span with notices := { n with attempts := n.attempts + 1 } :: rest } }) ∧
      (2 ≤ n.attempts → exec (.sendFault e) s =
        .next (State.bump { u with span := { u.span with notices := rest } } .noticesLost))) ∧
    (s.span.onAir = some .record → exec (.sendFault e) s =
      .next (State.bump { u with queue := { s.queue with send := some (.gap (max s.now e.moment + 500)) } }
        .recordResends)) ∧
    (∀ a, s.span.onAir = some (.claim a) → exec (.sendFault e) s = .next u)

/-! ### The Window Clock -/

/-- MARK in SEARCH (R88): the first becomes the candidate; one of the candidate's air time is ignored; one consistent
with it starts tracking and opens claiming for the window two ahead; any other replaces it. Consistent is: the successor
of its air time, arriving 2,340 ms to 2,460 ms after it. CLOCK_ACQUIRED is counted at the start of tracking; the Claim
Builder and the Tracker then react as to any window begun by a mark, in either order (log 8), and R103 tests at the end
(the model's choice, log 19), a window record overwritten if a bad byte of the serial leaves none free (the model's
choice, log 45), bad parity noted in the serial, which rises, and in the places the reactions read (log 7). -/
def Obligations.SearchJudgesMarks : Prop :=
  (∀ lap w : Nat, (w < 74 → airNext ⟨lap, w⟩ = ⟨lap, w + 1⟩) ∧ (lap < 65535 → airNext ⟨lap, 74⟩ = ⟨lap + 1, 0⟩) ∧
    airNext ⟨65535, 74⟩ = ⟨0, 0⟩) ∧
  ∀ (h : Header) (e : Env) (b : MarkBody) (s : State), s.takes h (.mark b) = true → s.claims.startTest = false →
    s.clock.state = .search →
    let air : AirTime := ⟨b.lap.toNat, b.window.toNat⟩
    let asCandidate : Clock := { s.clock with candidate := some ⟨air, e.moment⟩ }
    (s.clock.candidate = none → exec (.mark h e b) s = .next { s.atFrame h e with clock := asCandidate }) ∧
    (∀ c, s.clock.candidate = some c →
      (air = c.air → exec (.mark h e b) s = .next (s.atFrame h e)) ∧
      (air = airNext c.air → c.arrival + 2340 ≤ e.moment → e.moment ≤ c.arrival + 2460 →
        let plan : AirPlan := ⟨b.caps.map BitVec.toNat, b.zones⟩
        let serial := s.clock.serial + 1
        let ahead : AirTime := airNext (airNext air)
        let begun : Clock := { state := .tracking, current := some ⟨air, e.moment, .mark⟩, misses := 0,
                               candidate := none, held := none, latest := some (ahead, plan), serial := serial }
        let v := (((s.atFrame h e).bump .clockAcquired).withClock begun).rewrite [.serial]
        let claims (u : State) : State :=
          ((u.resolveAt serial (State.missingCarried serial)).closeAt (serial + 1)).openWindow ahead (serial + 2) plan
        let deadlines (u : State) : State := u.tracker.deadlines.foldl (State.meetDeadline serial air.window) u
        ∃ t, exec (.mark h e b) s = .next t ∧
          t = State.testStart (if e.trackerFirst then claims (deadlines v) else deadlines (claims v)) ∧
          t.clock = begun ∧
          t.claims.openWin = some { air := airNext (airNext air), serial := s.clock.serial + 3,
                                    plan := ⟨b.caps.map BitVec.toNat, b.zones⟩, sent := 0, claims := [] } ∧
          KeptBut
            [.now, .faults, .stats, .span, .subs, .intake, .store, .clock, .claims, .tracker, .queue, .parity] s t) ∧
      (air ≠ c.air → ¬ (air = airNext c.air ∧ c.arrival + 2340 ≤ e.moment ∧ e.moment ≤ c.arrival + 2460) →
        exec (.mark h e b) s = .next { s.atFrame h e with clock := asCandidate }))

/-- MARK out of its turn while TRACKING or COASTING (R89, R91): a duplicate is ignored, a late or early one counted, and
one of another air time that no held mark bears out is counted and held; no window begins and no other field of the
clock changes. A mark with the expected air time later than the tolerance cannot be met, since the window has been begun
by coasting; the model ignores it (log 15). -/
def Obligations.MarkOutOfTurnBeginsNoWindow : Prop :=
  ∀ (h : Header) (e : Env) (b : MarkBody) (s : State) (cur : Current), s.takes h (.mark b) = true →
    s.claims.startTest = false → s.clock.state ≠ .search → s.clock.current = some cur →
    let air : AirTime := ⟨b.lap.toNat, b.window.toNat⟩
    (air = cur.air → cur.begun = .mark → exec (.mark h e b) s = .next (s.atFrame h e)) ∧
    (air = cur.air → cur.begun = .coast → exec (.mark h e b) s = .next ((s.atFrame h e).bump .marksLate)) ∧
    (air = airNext cur.air → e.moment + 60 < cur.start + 2400 →
      exec (.mark h e b) s = .next ((s.atFrame h e).bump .marksEarly)) ∧
    (air = airNext cur.air → cur.start + 2460 < e.moment → exec (.mark h e b) s = .next (s.atFrame h e)) ∧
    (air ≠ cur.air → air ≠ airNext cur.air →
      (∀ x, s.clock.held = some x →
        ¬ (air = airNext x.air ∧ x.arrival + 2340 ≤ e.moment ∧ e.moment ≤ x.arrival + 2460)) →
      exec (.mark h e b) s =
        .next { (s.atFrame h e).bump .marksOutOfStep with
          clock := { s.clock with held := some ⟨air, e.moment, ⟨b.caps.map BitVec.toNat, b.zones⟩⟩ } })

/-- A good MARK (R89, R90) begins the expected window at its arrival, raises the serial and ends the misses; claiming
opens for the window two ahead with an empty fill view, the window claimed until now closes, and a composition with no
item starts unless a claim waits to be heard (R99, R103). The Claim Builder and the Tracker each react whole, in either
order (R87, log 8): the first resolves the window of the event's serial, closes the next and opens the one after; the
second meets the deadlines of its list in the list's order (R134). A window record of the event's serial is freed, a
composition or prepared claim for it abandoned first, and each of its claims without a report is carried in full,
REPORTS_MISSING counted once for it. An opening clears the fill view, the arbiter and the blocked set and walks the
window's three lists: a QUEUED or RESTING message that no claim names and that is past its lifetime finishes EXPIRED
(R73). R103 tests at the end: where the clock is TRACKING, the slot IDLE or WAITING and fewer than 16 claims are sent
for the OPEN window, a composition starts with no item, the arbiter and the blocked set's length saved and the cursors
at the heads of the lists; that it tests at the end, after both blocks' reactions, is the model's choice (log 19). The
claims of a window are resolved in the order of their numbers (log 36). Where a bad byte of the serial leaves no window
record free, or a CLOSED one unmatched, it is overwritten (the model's choice, log 45). The bytes noted are of the
places read (log 7). -/
def Obligations.GoodMarkBeginsWindow : Prop :=
  ∀ (h : Header) (e : Env) (b : MarkBody) (s : State) (cur : Current), s.takes h (.mark b) = true →
    s.clock.state ≠ .search → s.clock.current = some cur →
    (⟨b.lap.toNat, b.window.toNat⟩ : AirTime) = airNext cur.air →
    cur.start + 2340 ≤ e.moment → e.moment ≤ cur.start + 2460 →
    let ahead : AirTime := airNext (airNext (airNext cur.air))
    let plan : AirPlan := ⟨b.caps.map BitVec.toNat, b.zones⟩
    let serial := s.clock.serial + 1
    let begun : Clock := { state := .tracking, current := some ⟨airNext cur.air, e.moment, .mark⟩, misses := 0,
                           candidate := none, held := none, latest := some (ahead, plan), serial := serial }
    let v := ((s.atFrame h e).withClock begun).rewrite [.serial]
    let claims (u : State) : State :=
      ((u.resolveAt serial (State.missingCarried serial)).closeAt (serial + 1)).openWindow ahead (serial + 2) plan
    let deadlines (u : State) : State :=
      u.tracker.deadlines.foldl (State.meetDeadline serial (airNext cur.air).window) u
    (∀ (u : State) (w : WindowRec), u.claims.closedWin = some w → w.serial = serial →
      (∀ x, u.claims.openWin = some x → x.serial ≠ serial) →
      let r := w.claims.foldl (fun x c =>
        if c.resolved then x else (c.items.foldl (State.carryItem serial) x).bump .reportsMissing) u
      u.resolveAt serial (State.missingCarried serial) = { r with claims := { r.claims with closedWin := none } }) ∧
    (∀ (u : State) (w : WindowRec), u.claims.openWin = some w → w.serial = serial →
      (∀ x, u.claims.closedWin = some x → x.serial ≠ serial) →
      let r := w.claims.foldl (fun x c =>
        if c.resolved then x else (c.items.foldl (State.carryItem serial) x).bump .reportsMissing) u.abandon
      u.resolveAt serial (State.missingCarried serial) = { r with claims := { r.claims with openWin := none } }) ∧
    (∀ u : State, (∀ x, u.claims.openWin = some x ∨ u.claims.closedWin = some x → x.serial ≠ serial) →
      u.resolveAt serial (State.missingCarried serial) = u) ∧
    (∀ (u : State) (w : WindowRec) (n : Serial), u.claims.openWin = some w →
      (w.serial = n → u.closeAt n =
        { u.abandon with claims := { u.abandon.claims with openWin := none, closedWin := some w } }) ∧
      (w.serial ≠ n → u.closeAt n = u)) ∧
    (∀ (u : State) (air : AirTime) (n : Serial) (p : AirPlan),
      let x : State := { u with claims := { u.claims with
        openWin := some { air := air, serial := n, plan := p, sent := 0, claims := [] }, fill := List.replicate 16 0,
        arbiter := ⟨⟨0, 0, 0⟩, none, none⟩, blocked := [] } }
      let y := [Feed.urgent, .retry, .routine].foldl (fun z f =>
        ((z.dueList (dueKey air.window f)).foldl (State.expireUnclaimed n) z).noteReads
          [.dueList (dueKey air.window f)]) x
      u.openWindow air n p = { y with claims := { y.claims with startTest := true } }) ∧
    (∀ (u : State) (n : Serial) (slot : Nat) (m : Msg), u.msg slot = some m →
      let expires := (m.state = .queued ∨ ∃ nb, m.state = .resting nb) ∧ m.link = none ∧
        u.unit.setup.lifetime * 75 ≤ (n - m.accepted).toNat
      (expires → u.expireUnclaimed n slot = (u.finish slot .expired).noteReads [.message slot]) ∧
      (¬ expires → u.expireUnclaimed n slot = u.noteReads [.message slot])) ∧
    (∀ (u : State) (n : Serial) (slot : Nat), u.msg slot = none →
      u.expireUnclaimed n slot = u.noteReads [.message slot]) ∧
    (∀ u : State, (u.claims.startTest = false → u.testStart = u) ∧
      (u.claims.startTest = true →
        let tested : State := { u with claims := { u.claims with startTest := false } }
        let may (w : WindowRec) : Prop :=
          u.clock.state = .tracking ∧ (u.claims.slot = .idle ∨ u.claims.slot = .waiting) ∧ w.sent < 16
        ((∀ w, u.claims.openWin = some w → ¬ may w) → u.testStart = tested) ∧
        ∀ w, u.claims.openWin = some w → may w →
          let key := dueKey w.air.window
          u.testStart = State.noteReads { tested with
            claims := { tested.claims with
              slot := .composing { items := [], tally := List.replicate 16 0, savedArbiter := u.claims.arbiter,
                                   savedBlocked := u.claims.blocked.length, chosen := none } },
            store := { u.store with cursors :=
              ⟨(u.dueList (key .urgent)).head?, (u.dueList (key .retry)).head?, (u.dueList (key .routine)).head?⟩ } }
            [.dueList (key .urgent), .dueList (key .retry), .dueList (key .routine)])) ∧
    ∃ t, exec (.mark h e b) s = .next t ∧
      t = State.testStart (if e.trackerFirst then claims (deadlines v) else deadlines (claims v)) ∧
      t.clock = begun ∧
      t.claims.openWin =
        some { air := ahead, serial := s.clock.serial + 3, plan := plan, sent := 0, claims := [] } ∧
      t.claims.fill = List.replicate 16 0 ∧
      (∀ w, s.claims.openWin = some w → w.serial = s.clock.serial + 2 → t.claims.closedWin = some w) ∧
      (s.claims.slot ≠ .sent →
        (s.claims.slot.busy = true →
          ∃ w, s.claims.openWin = some w ∧ (w.serial = s.clock.serial + 1 ∨ w.serial = s.clock.serial + 2)) →
        ∃ c, t.claims.slot = .composing c ∧ c.items = []) ∧
      KeptBut
            [.now, .faults, .stats, .span, .subs, .intake, .store, .clock, .claims, .tracker, .queue, .parity] s t

/-- A MARK out of step that the held one bears out is a jump (R91, R101): the clock moves to its air time, the serial
rises by 1 for the window begun, and no window claimed before it is left. Before it begins, every claim held is voided:
the composition or prepared claim is abandoned; each sent claim not yet resolved, of the CLOSED window and then the OPEN
one, has its items dropped in their order, CLAIMS_VOIDED counted once for it and ITEMS_SPILLED not; both windows are
freed and the slot is IDLE. The Claim Builder and the Tracker then react as to any window begun by a mark (R87, log 8).
That the claims are voided before the serial rises, the CLOSED window's first, in the order of their numbers and the
items in theirs, is the model's choice (logs 18 and 36), and so is that R103 tests after both blocks' reactions (log
19); bad parity of the serial is noted where it rises (log 7). -/
def Obligations.JumpMovesAirTime : Prop :=
  (∀ u : State,
    let a := u.abandon
    let r := ((a.claims.closedWin.map WindowRec.claims).getD [] ++
      (a.claims.openWin.map WindowRec.claims).getD []).foldl State.voidClaim a
    u.voidAll = { r with claims := { r.claims with openWin := none, closedWin := none, slot := .idle } }) ∧
  (∀ (u : State) (c : ClaimRec),
    (c.resolved = true → u.voidClaim c = u) ∧
    (c.resolved = false → u.voidClaim c = (c.items.foldl State.dropItem u).bump .claimsVoided) ∧
    (u.voidClaim c).stat .itemsSpilled = u.stat .itemsSpilled) ∧
  ∀ (h : Header) (e : Env) (b : MarkBody) (s : State) (cur : Current) (x : HeldMark), s.takes h (.mark b) = true →
    s.clock.state ≠ .search → s.clock.current = some cur → s.clock.held = some x →
    let air : AirTime := ⟨b.lap.toNat, b.window.toNat⟩
    let plan : AirPlan := ⟨b.caps.map BitVec.toNat, b.zones⟩
    let serial := s.clock.serial + 1
    let ahead : AirTime := airNext (airNext air)
    let begun : Clock := { state := .tracking, current := some ⟨air, e.moment, .mark⟩, misses := 0, candidate := none,
                           held := none, latest := some (ahead, plan), serial := serial }
    let v := ((((s.atFrame h e).bump .clockJumps).voidAll).withClock begun).rewrite [.serial]
    let claims (u : State) : State :=
      ((u.resolveAt serial (State.missingCarried serial)).closeAt (serial + 1)).openWindow ahead (serial + 2) plan
    let deadlines (u : State) : State := u.tracker.deadlines.foldl (State.meetDeadline serial air.window) u
    air ≠ cur.air → air ≠ airNext cur.air →
    air = airNext x.air → x.arrival + 2340 ≤ e.moment → e.moment ≤ x.arrival + 2460 →
    ∃ t, exec (.mark h e b) s = .next t ∧
      t = State.testStart (if e.trackerFirst then claims (deadlines v) else deadlines (claims v)) ∧
      t.clock = begun ∧
      t.claims.closedWin = none ∧
      t.claims.openWin = some { air := airNext (airNext air), serial := s.clock.serial + 3, plan := plan, sent := 0,
                                claims := [] } ∧
      KeptBut
            [.now, .faults, .stats, .span, .subs, .intake, .store, .clock, .claims, .tracker, .queue, .parity] s t

/-- COAST_EXPIRY with fewer than three misses (R92, R100): the expected window begins on the grid, 2,400 ms after the
start before it, the misses and the serial rise by 1, the latest plan and a held mark stay, the window of that serial is
freed, and the claim slot is IDLE. The Claim Builder and the Tracker each react whole, in either order (R87, log 8); a
claim of that window without a report is spilled in full, REPORTS_MISSING counted once for it, and the deadlines of the
list are met in its order (R134). The time base moves on to 60 ms after that start (the model's choice, log 5), the slot
is IDLE whatever it held, and claims are spilled in the order of their numbers and items in theirs (log 36), R103 tests
after both blocks' reactions (log 19), and bad parity of the serial is noted where it rises (log 7). -/
def Obligations.CoastBeginsWindowOnGrid : Prop :=
  ∀ (e : Env) (s : State) (cur : Current), s.unit.engine = .service → s.unit.resetLow = false →
    s.clock.state ≠ .search → s.clock.current = some cur → s.clock.misses < 3 →
    let serial := s.clock.serial + 1
    let coasted : Clock := { s.clock with
      state := .coasting, current := some ⟨airNext cur.air, cur.start + 2400, .coast⟩, misses := s.clock.misses + 1,
      serial := serial }
    let v := (((s.withNow (max (max s.now e.moment) (cur.start + 2460))).bump .marksMissed).withClock
      coasted).rewrite [.serial]
    let claims (u : State) : State :=
      let x := (u.resolveAt serial State.missingSpilled).abandon
      { x with claims := { x.claims with slot := .idle } }
    let deadlines (u : State) : State :=
      u.tracker.deadlines.foldl (State.meetDeadline serial (airNext cur.air).window) u
    (∀ (u : State) (w : WindowRec), u.claims.openWin = some w → w.serial = serial →
      (∀ x, u.claims.closedWin = some x → x.serial ≠ serial) →
      let r := w.claims.foldl (fun x c =>
        if c.resolved then x else (c.items.foldl State.spillItem x).bump .reportsMissing) u.abandon
      u.resolveAt serial State.missingSpilled = { r with claims := { r.claims with openWin := none } }) ∧
    (∀ (u : State) (w : WindowRec), u.claims.closedWin = some w → w.serial = serial →
      (∀ x, u.claims.openWin = some x → x.serial ≠ serial) →
      let r := w.claims.foldl (fun x c =>
        if c.resolved then x else (c.items.foldl State.spillItem x).bump .reportsMissing) u
      u.resolveAt serial State.missingSpilled = { r with claims := { r.claims with closedWin := none } }) ∧
    (∀ u : State, (∀ x, u.claims.openWin = some x ∨ u.claims.closedWin = some x → x.serial ≠ serial) →
      u.resolveAt serial State.missingSpilled = u) ∧
    ∃ t, exec (.coastExpiry e) s = .next t ∧
      t = State.testStart (if e.trackerFirst then claims (deadlines v) else deadlines (claims v)) ∧
      t.clock = coasted ∧
      t.now = max (max s.now e.moment) (cur.start + 2460) ∧
      t.claims.slot = .idle ∧ t.claims.fill = s.claims.fill ∧
      t.claims.openWin = s.claims.openWin.filter (fun w => w.serial ≠ s.clock.serial + 1) ∧
      t.claims.closedWin = s.claims.closedWin.filter (fun w => w.serial ≠ s.clock.serial + 1) ∧
      KeptBut
            [.now, .faults, .stats, .span, .subs, .intake, .store, .clock, .claims, .tracker, .queue, .parity] s t

/-- COAST_EXPIRY at the fourth miss (R93, R101): the clock enters SEARCH, the serial stays, CLOCK_LOST is latched and
the FAULT line asserted, and every claim held is voided: the composition or prepared claim is abandoned; each sent claim
not yet resolved, of the CLOSED window and then the OPEN one, has its items dropped in their order, CLAIMS_VOIDED
counted once for it and ITEMS_SPILLED not; both windows are freed and the slot is IDLE. That the CLOSED window goes
first, its claims in the order of their numbers and the items in theirs, is the model's choice (log 36), and so is that
the time base moves on to 60 ms after the window's expected start (log 5). -/
def Obligations.FourthMissLosesTheClock : Prop :=
  (∀ u : State,
    let a := u.abandon
    let r := ((a.claims.closedWin.map WindowRec.claims).getD [] ++
      (a.claims.openWin.map WindowRec.claims).getD []).foldl State.voidClaim a
    u.voidAll = { r with claims := { r.claims with openWin := none, closedWin := none, slot := .idle } }) ∧
  (∀ (u : State) (c : ClaimRec),
    (c.resolved = true → u.voidClaim c = u) ∧
    (c.resolved = false → u.voidClaim c = (c.items.foldl State.dropItem u).bump .claimsVoided) ∧
    (u.voidClaim c).stat .itemsSpilled = u.stat .itemsSpilled) ∧
  ∀ (e : Env) (s : State) (cur : Current), s.unit.engine = .service → s.unit.resetLow = false →
    s.clock.state ≠ .search → s.clock.current = some cur → 3 ≤ s.clock.misses →
    let missed := (s.withNow (max (max s.now e.moment) (cur.start + 2460))).bump .marksMissed
    let lost : Clock := { state := .search, current := none, misses := 0, candidate := none, held := none,
                          latest := none, serial := s.clock.serial }
    ∃ t, exec (.coastExpiry e) s = .next t ∧
      t = ((((missed.latch .clockLost).bump .clockLosses).withClock lost).voidAll).testStart ∧
      t.clock = lost ∧
      t.claims.openWin = none ∧ t.claims.closedWin = none ∧ t.claims.slot = .idle ∧
      t.faults.causes.clockLost = true ∧ t.faultLine = true ∧
      KeptBut
            [.now, .faults, .stats, .span, .subs, .intake, .store, .clock, .claims, .tracker, .queue, .parity] s t

/-! ### The Claim Builder -/

/-- COMPOSITION_STEP: the message at the chosen feed's cursor is dealt with as the first row of R104's table that
matches says: passed over, expired, passed over with its subscriber blocked, or taken into the claim; the cursor moves
to its successor first. Its zone set is the neighbour mask of its last heard zone while that is fresh and it is within
its first two sends, and all zones otherwise, met with the zones in service (R97); a zone above 15, which a bad byte
alone gives, has the empty mask (the model's choice, log 45). A taking sets the message's claim link, makes the
reservation of a first send, adds the item and its cost to the composition, and counts it against its feed's run (R105,
R106, R108). The walk takes its next message from the feed it stays with while that feed's cursor is not END, and else
from the feed the arbiter then chooses; it stays with the feed of a message passed over, and at END has a new choice
made at once (R107). A composition of 16 items, or without a live feed, makes no step; a slot that reads FREE is passed
over (the model's choice, log 45). A reservation is made at the taking alone (log 10); the arbiter's choice after a
taking is made at the next step, and a level without a live feed keeps its holder named (the model's choice, log 9); a
not-before serial is above the window's by less than half the range of serials (the model's choice, log 11). Bad parity
is noted in the message's record and its subscriber's (log 7). -/
def Obligations.CompositionStepDealsWithMessage : Prop :=
  (∀ (s : State) (c : Composition),
    let cursor (f : Feed) : Option Nat := feedGet s.store.cursors f
    let anew := arbiterChoose s.unit.setup.feeds
      ⟨(cursor .urgent).isSome, (cursor .retry).isSome, (cursor .routine).isSome⟩ s.claims.arbiter
    let goingOn (f : Option Feed) (a : Arbiter) : State :=
      { s with claims := { s.claims with arbiter := a, slot := .composing { c with chosen := f } } }
    (∀ f, c.chosen = some f → cursor f ≠ none → s.walkFeed c = (some f, s.claims.arbiter)) ∧
    ((∀ f, c.chosen = some f → cursor f = none) → s.walkFeed c = anew) ∧
    ∀ f, (cursor f ≠ none → s.stayWith c f = goingOn (some f) s.claims.arbiter) ∧
      (cursor f = none → s.stayWith c f = goingOn anew.1 anew.2)) ∧
  (∀ (x : Nat) (before after : List Nat), x ∉ before → nextIn x (before ++ x :: after) = after.head?) ∧
  (∀ (fill tally caps : List Nat) (zones : ZoneSet) (cost : Nat), fits fill tally caps zones cost = true ↔
    ∀ z < 16, zones.getLsbD z = true → fill.getD z 0 + tally.getD z 0 + cost ≤ caps.getD z 0) ∧
  (∀ m : Msg, (claimable m = true ↔ m.state = .queued ∨ ∃ nb, m.state = .resting nb) ∧
    ∀ n : Serial, notDue m n = true ↔
      ∃ nb, m.state = .resting nb ∧ 0 < (nb - n).toNat ∧ (nb - n).toNat < 2147483648) ∧
  (∀ (s : State) (tag seq : Nat), s.keyHeld tag seq = true ↔
    (∃ x ∈ s.tracker.entries, x.tag = tag ∧ x.seq = seq) ∨ ∃ x ∈ s.tracker.reservations, x.tag = tag ∧ x.seq = seq) ∧
  (∀ (e : Env) (s : State) (c : Composition) (w : WindowRec), s.unit.engine = .service → s.unit.resetLow = false →
    s.claims.slot = .composing c → s.claims.openWin = some w →
    let u := s.advance e.moment
    (16 ≤ c.items.length ∨ (∀ f, feedGet s.store.cursors f = none) →
      exec (.compositionStep e) s = .next u.testStart) ∧
    ∀ f a slot, c.items.length < 16 → s.walkFeed c = (some f, a) → feedGet s.store.cursors f = some slot →
      s.msg slot = none →
      let v := (u.withClaims { s.claims with arbiter := a }).putCursor f
        (nextIn slot (s.dueList (dueKey w.air.window f)))
      exec (.compositionStep e) s = .next ((v.stayWith c f).noteReads [.message slot]).testStart) ∧
  ∀ (e : Env) (s : State) (c : Composition) (w : WindowRec) (f : Feed) (a : Arbiter) (slot : Nat) (m : Msg),
    s.unit.engine = .service → s.unit.resetLow = false → s.claims.slot = .composing c → s.claims.openWin = some w →
    c.items.length < 16 → s.walkFeed c = (some f, a) → feedGet s.store.cursors f = some slot →
    s.msg slot = some m →
    let v := ((s.advance e.moment).withClaims { s.claims with arbiter := a }).putCursor f
      (nextIn slot (s.dueList (dueKey w.air.window f)))
    let r := s.sub m.subIndex
    let first : Bool := r.twoWay && decide (m.sends = 0)
    let wanted : ZoneSet := match r.lastHeard with
      | some l =>
        if r.twoWay = true ∧ (w.serial - l.serial).toNat ≤ s.unit.setup.freshSpan * 75 ∧ m.sends + 1 ≤ 2 then
          s.unit.setup.neighbours.getD l.zone 0
        else 0xFFFF
      | none => 0xFFFF
    let zones := wanted &&& w.plan.zones
    let cost := sendCost m
    let item : Item := ⟨slot, allParts m.counts.length &&& ~~~ m.held, zones, cost, first⟩
    let taken : State := { v.putMsg slot { m with link := some ⟨w.serial, w.sent, c.items.length⟩ } with
      tracker := if first then
          { s.tracker with reservations := s.tracker.reservations ++ [⟨r.airTag, m.seq, slot⟩] }
        else s.tracker,
      claims := { s.claims with
        arbiter := { a with run := feedPut a.run f (feedGet a.run f - 1) },
        slot := .composing { c with
          items := c.items ++ [item], chosen := none,
          tally := (List.range 16).map (fun z => zoneAt c.tally z + if hasZone zones z then cost else 0) } } }
    let blocked := v.withClaims { v.claims with blocked := s.claims.blocked ++ [(m.subIndex, f)] }
    exec (.compositionStep e) s = .next (State.testStart (State.noteReads (
      if claimable m = false ∨ m.link.isSome = true then v.stayWith c f
      else if (m.subIndex, f) ∈ s.claims.blocked then v.stayWith c f
      else if s.unit.setup.lifetime * 75 ≤ (w.serial - m.accepted).toNat then (v.finish slot .expired).stayWith c f
      else if notDue m w.serial then v.stayWith c f
      else if first = true ∧ s.keyHeld r.airTag m.seq = true then (blocked.bump .tagClashes).stayWith c f
      else if first = true ∧ 1024 ≤ s.tracker.entries.length + s.tracker.reservations.length then
        (blocked.latch .outstandingFull).stayWith c f
      else if zones = 0 then blocked.stayWith c f
      else if fits s.claims.fill c.tally w.plan.caps zones cost = false then blocked.stayWith c f
      else taken) [.message slot, .subscriber m.subIndex]))

/-- The feed arbiter (R107, R108): it grants a live feed, of the LOW level only when no HIGH feed is live; a live holder
with run left keeps the grant and its run, and otherwise the grant passes to the first live feed of the level round the
cycle after the holder, with a fresh run; a level passed over keeps its holder and its run. A holder, of a level looked
at, that is not live has its run remaining set to 0, and the run of every other feed not granted stays. It grants
nothing exactly when no feed is live, and then both holders stay named. That a HIGH level without a live feed keeps its
holder named is the model's choice (log 9); R108 says it of a LOW holder. -/
def Obligations.ArbiterKeepsLevelsAndRuns : Prop :=
  ∀ (settings : PerFeed FeedSetting) (live : PerFeed Bool) (a : Arbiter),
    ((arbiterChoose settings live a).1 = none ↔ ∀ f, feedGet live f = false) ∧
    ((arbiterChoose settings live a).1 = none →
      (arbiterChoose settings live a).2.high = a.high ∧ (arbiterChoose settings live a).2.low = a.low) ∧
    (let lowLooked := ∀ f, feedGet live f = true → (feedGet settings f).level = .low
     ∀ g, (arbiterChoose settings live a).1 ≠ some g →
       let lost := feedGet live g = false ∧ (a.high = some g ∨ (lowLooked ∧ a.low = some g))
       (lost → feedGet (arbiterChoose settings live a).2.run g = 0) ∧
       (¬ lost → feedGet (arbiterChoose settings live a).2.run g = feedGet a.run g)) ∧
    ∀ f a', arbiterChoose settings live a = (some f, a') →
      feedGet live f = true ∧
      ((feedGet settings f).level = .low → ∀ g, feedGet live g = true → (feedGet settings g).level = .low) ∧
      ((feedGet settings f).level = .high → a'.high = some f ∧ a'.low = a.low) ∧
      ((feedGet settings f).level = .low → a'.low = some f ∧ a'.high = a.high) ∧
      (let holder := if (feedGet settings f).level = .high then a.high else a.low
       let keeps := ∃ x, holder = some x ∧ feedGet live x = true ∧
         (feedGet settings x).level = (feedGet settings f).level ∧ 0 < feedGet a.run x
       (keeps → holder = some f ∧ feedGet a'.run f = feedGet a.run f) ∧
       (¬ keeps → feedGet a'.run f = (feedGet settings f).run ∧
         ∃ before after, cycleFrom holder = before ++ f :: after ∧
           ∀ g ∈ before, ¬ (feedGet live g = true ∧ (feedGet settings g).level = (feedGet settings f).level)))

/-- R106: whatever the state, a step of a composition takes at most one item, and the item taken fits: in every zone of
its zone set the fill view, the tally and its cost are within the plan's capacity; the set is not empty and lies within
the zones in service. -/
def Obligations.TakenItemFits : Prop :=
  ∀ (e : Env) (s t : State) (c c' : Composition) (w : WindowRec),
    exec (.compositionStep e) s = .next t → s.claims.slot = .composing c → s.claims.openWin = some w →
    t.claims.slot = .composing c' →
    c'.items = c.items ∨
      ∃ i : Item, c'.items = c.items ++ [i] ∧ i.zones ≠ 0 ∧ i.zones &&& w.plan.zones = i.zones ∧
        ∀ z < 16, hasZone i.zones z = true →
          zoneAt s.claims.fill z + zoneAt c.tally z + i.cost ≤ zoneAt w.plan.caps z

/-- COMPOSITION_END: at 16 items, or with no live feed and an item, the claim is PREPARED; with no live feed and no item
the slot is WAITING; a composition that has not ended goes on (the model's choice, log 6). Both are judged by the
cursors as they stand when the command comes, so that a message which joined after the step that found no live feed
keeps the composition open (the model's choice, log 40). With no live feed a holder's run remaining is set to 0 and
every other run stays (R107); that each level's holder stays named is the model's choice (log 9); at 16 items the
arbiter stays as it stood (the model's choice, log 43). -/
def Obligations.CompositionEndPrepares : Prop :=
  ∀ (e : Env) (s : State) (c : Composition), s.unit.engine = .service → s.unit.resetLow = false →
    s.claims.slot = .composing c →
    let u := s.advance e.moment
    let run (g : Feed) : Nat :=
      if s.claims.arbiter.high = some g ∨ s.claims.arbiter.low = some g then 0 else feedGet s.claims.arbiter.run g
    (16 ≤ c.items.length →
      exec (.compositionEnd e) s = .next { u with claims := { s.claims with slot := .prepared c } }) ∧
    (c.items.length < 16 → (∀ f, feedGet s.store.cursors f = none) →
      exec (.compositionEnd e) s = .next { u with claims := { s.claims with
        arbiter := { s.claims.arbiter with run := ⟨run .urgent, run .retry, run .routine⟩ },
        slot := if c.items = [] then .waiting else .prepared c } }) ∧
    (c.items.length < 16 → (∃ f slot, feedGet s.store.cursors f = some slot) →
      exec (.compositionEnd e) s = .next u)

/-- R96: a send costs 1 cell for its header and, for each part of the message not held, 1 more and the part's body: a
third of its characters for TEXT, a fifth for NUMERIC, rounded up, and none for TONE. A message of 1 to 8 parts of at
most 32 characters costs 2 to 97 cells while a part is missing, and 8 full text parts cost 97; a TONE message, with its
one part of 0 characters, costs 2; and a part less never costs more. -/
def Obligations.SendCostWithinRange : Prop :=
  (∀ m : Msg, m.counts.length ≤ 8 →
    sendCost m = 1 + (((List.range m.counts.length).filter (fun p => !m.held.getLsbD p)).map (fun p =>
      1 + match m.kind with
        | .text => (m.counts.getD p 0 + 2) / 3
        | .numeric => (m.counts.getD p 0 + 4) / 5
        | .tone => 0)).sum) ∧
  (∀ m : Msg, 1 ≤ m.counts.length → m.counts.length ≤ 8 → (∀ c ∈ m.counts, c ≤ 32) → partsIncluded m ≠ 0 →
    2 ≤ sendCost m ∧ sendCost m ≤ 97) ∧
  (∀ m : Msg, m.kind = .text → m.counts = List.replicate 8 32 → m.held = 0 → sendCost m = 97) ∧
  (∀ m : Msg, m.kind = .tone → m.counts = [0] → m.held = 0 → sendCost m = 2) ∧
  (∀ (m : Msg) (held : PartMask), m.counts.length ≤ 8 →
    sendCost { m with held := m.held ||| held } ≤ sendCost m)

/-- CLAIM_REPORTED_SENT (R113): the claim slot becomes SENT, the claim is kept UNRESOLVED under its window, whose count
rises by 1, its QUEUED and RESTING items become CLAIMED, and CLAIMS_SENT is counted; one abandoned after its key was won
keeps no record and is counted as voided, not as sent. Bad parity is noted in each item's message (log 7). -/
def Obligations.ReportedSentClaimIsKept : Prop :=
  ∀ (e : Env) (s : State), s.unit.engine = .service → s.unit.resetLow = false →
    (∀ c w, s.span.onAir = some (.claim false) → s.claims.slot = .prepared c → s.claims.openWin = some w →
      let marked := c.items.foldl State.markSent { s.advance e.moment with span := { s.span with onAir := none } }
      ∃ t, exec (.claimReportedSent e) s = .next t ∧
        t = State.bump { marked with claims := t.claims } .claimsSent ∧
        t.span = { s.span with onAir := none } ∧
        t.claims = { s.claims with
          openWin := some { w with sent := w.sent + 1, claims := w.claims ++ [⟨w.sent, c.items, false⟩] },
          slot := .sent } ∧
        (∀ slot m, s.msg slot = some m → (∃ i ∈ c.items, i.slot = slot) → m.link.isSome = true →
          (m.state = .queued → t.msg slot = some { m with state := .claimed .queued }) ∧
          (∀ nb, m.state = .resting nb → t.msg slot = some { m with state := .claimed (.resting nb) }) ∧
          (∀ o f g, m.state = .finishing o f g → t.msg slot = some m)) ∧
        (∀ slot, (∀ i ∈ c.items, i.slot ≠ slot) → t.msg slot = s.msg slot) ∧
        (tableSorted s.stats = true → t.stat .claimsSent = min 65535 (s.stat .claimsSent + 1) ∧
          t.stat .claimsVoided = s.stat .claimsVoided) ∧
        KeptBut [.now, .faults, .stats, .span, .store, .claims, .parity] s t) ∧
    (s.span.onAir = some (.claim true) →
      exec (.claimReportedSent e) s =
        .next (State.bump { s.advance e.moment with span := { s.span with onAir := none } }
          .claimsVoided))

/-- CLAIM taken (R102, R110, R114): on the claim window, its items' costs rise in the zones of their sets in the fill
view, saturating at 65,535, and a claim of another station makes the engine abandon its composition or prepared claim;
off it, CLAIMS_OFF_WINDOW is counted. The engine's own frees a SENT claim slot, and a composition may start; that it
leaves a slot that is not SENT as it was is the model's choice (log 33). An abandonment reverts the items in their order
(the model's choice, log 36), each first send's reservation released, puts back the arbiter and the blocked set as they
were saved, frees the slot, and counts CLAIMS_WITHDRAWN for a prepared claim; a frame of it already on the medium goes
on as it was (R111). -/
def Obligations.TakenClaimRaisesFill : Prop :=
  (∀ (fill : List Nat) (items : List ClaimItem) (z : Nat), z < 16 → zoneAt fill z ≤ 65535 →
    zoneAt (addFill fill items) z =
      min 65535 (zoneAt fill z +
        ((items.filter (fun i => hasZone i.zones z)).map (fun i => i.cost.toNat)).sum)) ∧
  (∀ s : State, (∀ c, s.claims.slot ≠ .composing c ∧ s.claims.slot ≠ .prepared c) → s.abandon = s) ∧
  (∀ (s : State) (c : Composition), s.claims.slot = .composing c ∨ s.claims.slot = .prepared c →
    let r := c.items.foldl State.dropItem s
    let u : State := { r with
      claims := { r.claims with
        arbiter := c.savedArbiter, blocked := r.claims.blocked.take c.savedBlocked, slot := .idle, startTest := true },
      span := { r.span with onAir := s.span.onAir.map (fun o => match o with
        | .claim _ => .claim true
        | x => x) } }
    s.abandon = (if s.claims.slot = .prepared c then u.bump .claimsWithdrawn else u) ∧
    s.abandon.frameOnAir = s.frameOnAir) ∧
  ∀ (h : Header) (e : Env) (b : ClaimBody) (s : State), s.takes h (.claim b) = true → s.claims.startTest = false →
    let v := s.atFrame h e
    let filled := v.withClaims { s.claims with fill := addFill s.claims.fill b.items }
    let freed := match s.claims.slot with
      | .sent => ClaimSlot.idle
      | x => x
    ((∃ w, s.claims.openWin = some w ∧ w.air = ⟨b.lap.toNat, b.window.toNat⟩) →
      (h.src.toNat ≠ s.unit.setup.own → exec (.claim h e b) s = .next (filled.abandon).testStart) ∧
      (h.src.toNat = s.unit.setup.own → exec (.claim h e b) s =
        .next (filled.withClaims { filled.claims with slot := freed, startTest := true }).testStart)) ∧
    ((∀ w, s.claims.openWin = some w → w.air ≠ ⟨b.lap.toNat, b.window.toNat⟩) →
      (h.src.toNat ≠ s.unit.setup.own → exec (.claim h e b) s = .next (v.bump .claimsOffWindow)) ∧
      (h.src.toNat = s.unit.setup.own → exec (.claim h e b) s =
        .next ((v.bump .claimsOffWindow).withClaims { s.claims with slot := freed, startTest := true }).testStart))

/-- REPORT taken (R115 to R117): its entries act in their order. An entry for another station, for no window record's
air time, or for no unresolved claim changes nothing; one for an unresolved claim of the engine's resolves it: its first
accepted items are carried and the rest spilled. A spilled item has its reservation released and its claim link cleared:
a CLAIMED message is again what it was before its claim, at its place on its due list, or finishes CANCELLED if it
carries the recall mark, and a FINISHING one goes on to settlement (R65, R117). ITEMS_SPILLED is counted for it, and not
for an item dropped by an abandonment or a void. The spilled items go in item order (the model's choice, log 36). Bad
parity is noted in the item's message and its subscriber (log 7). -/
def Obligations.ReportResolvesClaimByPrefix : Prop :=
  (∀ (h : Header) (e : Env) (b : ReportBody) (s : State), s.takes h (.report b) = true →
    exec (.report h e b) s =
      .next (b.entries.foldl (State.reportEntry ⟨b.lap.toNat, b.window.toNat⟩) (s.atFrame h e)).testStart) ∧
  (∀ (air : AirTime) (s : State) (x : ReportEntry),
    let named := fun c : ClaimRec => decide (c.number = x.number.toNat ∧ c.resolved = false)
    let settled (w : WindowRec) (c : ClaimRec) (u : State) : State :=
      (c.items.drop x.accepted.toNat).foldl State.spillItem
        ((c.items.take x.accepted.toNat).foldl (State.carryItem w.serial) u)
    let done (w : WindowRec) (c : ClaimRec) : WindowRec := { w with
      claims := w.claims.map (fun k => if k.number = c.number then { k with items := [], resolved := true } else k) }
    (x.station.toNat ≠ s.unit.setup.own → s.reportEntry air x = s) ∧
    ((∀ w, s.claims.openWin = some w → w.air ≠ air) → (∀ w, s.claims.closedWin = some w → w.air ≠ air) →
      s.reportEntry air x = s) ∧
    (∀ w, x.station.toNat = s.unit.setup.own → s.claims.openWin = some w → w.air = air →
      (w.claims.find? named = none → s.reportEntry air x = s) ∧
      (∀ c, w.claims.find? named = some c →
        s.reportEntry air x = settled w c (s.withClaims { s.claims with openWin := some (done w c) }))) ∧
    (∀ w, x.station.toNat = s.unit.setup.own → (∀ v, s.claims.openWin = some v → v.air ≠ air) →
      s.claims.closedWin = some w → w.air = air →
      (w.claims.find? named = none → s.reportEntry air x = s) ∧
      (∀ c, w.claims.find? named = some c →
        s.reportEntry air x = settled w c (s.withClaims { s.claims with closedWin := some (done w c) })))) ∧
  (∀ (s : State) (slot : Nat),
    (s.reservationOf slot = none → s.releaseReservation slot = s) ∧
    (∀ q, s.reservationOf slot = some q → s.releaseReservation slot =
      (s.withTracker { s.tracker with
        reservations := s.tracker.reservations.filter (fun y => y.slot ≠ slot) }).wake)) ∧
  ∀ (s : State) (i : Item) (m : Msg), s.msg i.slot = some m →
    let v := if i.first then s.releaseReservation i.slot else s
    let home := (s.sub m.subIndex).homeWindow
    let bare : Msg := { m with link := none }
    let dropped := s.dropItem i
    let noted (u : State) : State := u.noteReads [.message i.slot, .subscriber m.subIndex]
    s.spillItem i = dropped.bump .itemsSpilled ∧
    (m.state = .queued ∨ (∃ nb, m.state = .resting nb) → dropped = noted ((v.putMsg i.slot bare).wakeAt home)) ∧
    (m.state = .claimed .queued → m.recallMark = false →
      dropped = noted ((v.putMsg i.slot { bare with state := .queued }).wakeAt home)) ∧
    (∀ nb, m.state = .claimed (.resting nb) → m.recallMark = false →
      dropped = noted ((v.putMsg i.slot { bare with state := .resting nb }).wakeAt home)) ∧
    (∀ p, m.state = .claimed p → m.recallMark = false → dropped.store.due = s.store.due) ∧
    (∀ p, m.state = .claimed p → m.recallMark = true →
      dropped = noted (v.finishUnlinked i.slot bare .cancelled)) ∧
    (∀ o f, m.state = .finishing o f .claim → dropped = noted ((v.putMsg i.slot bare).settle i.slot))

/-! ### The Acknowledgement Tracker -/

/-- HEARD (R129 to R133): one whose key no entry has is counted and changes nothing else; a matched one adds the parts
it names that have been aired, offers its zone and grade with the current serial, and finishes the message DELIVERED
when every part is held; it is late when the entry is BETWEEN. A message that gains no part and a last heard that is
kept are not written (R130, R131). Bad parity is noted in the message's record, its subscriber's and the serial (log 7).
-/
def Obligations.HeardCreditsItsEntry : Prop :=
  ∀ (h : Header) (e : Env) (b : HeardBody) (s : State), s.takes h (.heard b) = true → s.claims.startTest = false →
    (s.entryAt b.tag.toNat b.seq.toNat = none → exec (.heard h e b) s = .next ((s.atFrame h e).bump .heardUnmatched)) ∧
    ∀ x m, s.entryAt b.tag.toNat b.seq.toNat = some x → s.msg x.slot = some m →
      let u := (s.atFrame h e).bump .heardMatched
      let v := if x.state = .between then u.bump .lateHeards else u
      let open_ : Bool := match m.state with
        | .claimed _ => true
        | .awaiting => true
        | .resting _ => true
        | _ => false
      let m1 : Msg := if open_ then { m with held := m.held ||| (b.held &&& m.aired) } else m
      let r := s.sub m.subIndex
      let best := offerHeard r.lastHeard ⟨b.zone.toNat, b.grade.toNat, s.clock.serial⟩
      let gained := if m1 = m then v else v.putMsg x.slot m1
      let w := (if r.lastHeard = some best then gained
        else gained.putSub m.subIndex { r with lastHeard := some best }).noteReads [.serial]
      exec (.heard h e b) s =
        .next ((if allParts m.counts.length &&& ~~~ m1.held = 0 then w.finish x.slot .delivered else w).noteReads
          [.message x.slot, .subscriber m.subIndex]).testStart

/-- R131: an offer replaces an absent last heard and one of another serial (the serial does not go back, log 11); at the
same serial the higher grade wins, and on equal grades the lower zone. So the order in which HEARDs of one window are
taken does not matter. -/
def Obligations.LastHeardOrderFree : Prop :=
  (∀ o, offerHeard none o = o) ∧
  (∀ l o : LastHeard, o.serial ≠ l.serial → offerHeard (some l) o = o) ∧
  (∀ l o : LastHeard, o.serial = l.serial →
    offerHeard (some l) o = if l.grade < o.grade ∨ (o.grade = l.grade ∧ o.zone < l.zone) then o else l) ∧
  (∀ (held : Option LastHeard) (o1 o2 : LastHeard), o1.serial = o2.serial →
    offerHeard (some (offerHeard held o1)) o2 = offerHeard (some (offerHeard held o2)) o1)

/-- R136: at a deadline met at serial s and window number w, a message of home window h rests until s + d + 75 times the
gap, where s + d is the next window of number h after s, 1 to 75 windows on, and the gap is the smaller of its sends
less 1 and 3. -/
def Obligations.RetryLadderNotBefore : Prop :=
  ∀ (serial : Serial) (window home sends : Nat), window < 75 → home < 75 → 1 ≤ sends →
    ∃ d gap, 1 ≤ d ∧ d ≤ 75 ∧ (window + d) % 75 = home ∧ (∀ x, 1 ≤ x → x < d → (window + x) % 75 ≠ home) ∧
      gap = min (sends - 1) 3 ∧ notBeforeAt serial window home sends = serial + BitVec.ofNat 32 (d + 75 * gap)

/-- A WAITING entry meets its deadline at the window-begun event of its serial, and at no other (R134, R135): with all
its sends used the message ends PARTIAL or UNDELIVERED, else past its lifetime it ends EXPIRED, and else it rests under
the ladder, its entry BETWEEN, at the tail of the RETRY list of its home window. Bad parity is noted in its record and
its subscriber's (log 7). -/
def Obligations.DeadlineDecidesInOrder : Prop :=
  ∀ (serial : Serial) (window slot : Nat) (s : State) (x : Entry) (m : Msg),
    s.entryOf slot = some x → s.msg slot = some m →
    let u := s.bump .deadlinesExpired
    let home := (s.sub m.subIndex).homeWindow
    let past : Prop := s.unit.setup.lifetime * 75 ≤ (serial - m.accepted).toNat
    let reads : List StorePlace := [.message slot, .subscriber m.subIndex]
    (x.state ≠ .waiting serial → s.meetDeadline serial window slot = s) ∧
    (x.state = .waiting serial → m.sends = s.unit.setup.maxSends →
      s.meetDeadline serial window slot =
        (u.finish slot (if m.held = 0 then .undelivered else .partly)).noteReads reads) ∧
    (x.state = .waiting serial → m.sends ≠ s.unit.setup.maxSends → past →
      s.meetDeadline serial window slot = (u.finish slot .expired).noteReads reads) ∧
    (x.state = .waiting serial → m.sends ≠ s.unit.setup.maxSends → ¬ past → m.state = .awaiting → m.feed = none →
      tableSorted s.store.due = true →
      let t := s.meetDeadline serial window slot
      t.msg slot = some { m with
        state := .resting (notBeforeAt serial window home m.sends), feed := some .retry } ∧
      t.tracker = { s.tracker with
        entries := s.tracker.entries.map (fun y => if y.slot = slot then { y with state := .between } else y),
        deadlines := s.tracker.deadlines.filter (fun y => y ≠ slot) } ∧
      t.dueList (dueKey home .retry) = s.dueList (dueKey home .retry) ++ [slot] ∧
      (∀ k, k ≠ dueKey home .retry → t.dueList k = s.dueList k) ∧ (∀ k, k ≠ slot → t.msg k = s.msg k) ∧
      KeptBut [.faults, .stats, .store, .claims, .tracker, .parity] s t)

/-- A carried item's next state (R66, R125 to R127): the parts aired and the send are added in every state; a FINISHING
message goes on to settlement, one with a recall mark ends CANCELLED, a two-way one becomes AWAITING with a deadline the
ack span after the window that follows, and a one-way one rests for a lap until its sends reach the repeat count, when
it ends SENT_BLIND. A hand-off that makes no entry releases the reservation it names (R123), whatever the message reads
as; a slot that reads FREE takes no send, and a two-way send that finds neither reservation nor entry makes none (the
model's choice, log 45). Bad parity is noted in its record and its subscriber's (log 7). -/
def Obligations.CarriedItemNextState : Prop :=
  (∀ (serial : Serial) (s : State) (i : Item), s.msg i.slot = none →
    State.carryItem serial s i =
      ((if i.first then s.releaseReservation i.slot else s).noteReads [.message i.slot]).bump .itemsCarried) ∧
  ∀ (serial : Serial) (s : State) (i : Item) (m : Msg), s.msg i.slot = some m → tableSorted s.store.due = true →
    let m1 : Msg := { m with
      aired := m.aired ||| i.parts, sends := m.sends + 1, zones := some i.zones, link := none }
    let v := if i.first then s.releaseReservation i.slot else s
    let r := s.sub m.subIndex
    let t := State.carryItem serial s i
    let retry := dueKey r.homeWindow .retry
    let deadline := serial + 1 + BitVec.ofNat 32 s.unit.setup.ackSpan
    let counted (u : State) : State := (u.noteReads [.message i.slot, .subscriber m.subIndex]).bump .itemsCarried
    (∀ o f, m.state = .finishing o f .claim → t = counted ((v.putMsg i.slot m1).settle i.slot)) ∧
    (∀ o f, m.state = .finishing o f .queue → t = counted (v.putMsg i.slot m1)) ∧
    (m.state = .queued ∨ (∃ nb, m.state = .resting nb) ∨ m.state = .awaiting → t = counted (v.putMsg i.slot m1)) ∧
    (∀ p, m.state = .claimed p → m.recallMark = true → t = counted (v.finishUnlinked i.slot m1 .cancelled)) ∧
    (∀ p, m.state = .claimed p → m.recallMark = false → r.twoWay = true →
      t.msg i.slot = some { m1 with state := .awaiting, feed := none } ∧
      (∀ f, m.feed = some f → t.dueList (dueKey r.homeWindow f) = (s.dueList (dueKey r.homeWindow f)).erase i.slot) ∧
      t.tracker.deadlines = s.tracker.deadlines ++ [i.slot] ∧
      (∀ q, i.first = true → s.reservationOf i.slot = some q →
        t.tracker.entries = s.tracker.entries ++ [⟨q.tag, q.seq, i.slot, .waiting deadline⟩] ∧
        t.tracker.reservations = s.tracker.reservations.filter (fun y => y.slot ≠ i.slot)) ∧
      (i.first = false →
        t.tracker.entries =
          s.tracker.entries.map (fun y => if y.slot = i.slot then { y with state := .waiting deadline } else y) ∧
        t.tracker.reservations = s.tracker.reservations) ∧
      KeptBut [.faults, .stats, .store, .claims, .tracker, .parity] s t ∧
      ((∀ c, s.claims.slot ≠ .composing c) → t.claims = s.claims)) ∧
    (∀ p, m.state = .claimed p → m.recallMark = false → r.twoWay = false → m.sends + 1 < r.repeatCount →
      t.msg i.slot = some { m1 with state := .resting (serial + 75), feed := some .retry } ∧
      t.dueList retry =
        (if m.feed = some .retry then (s.dueList retry).erase i.slot else s.dueList retry) ++ [i.slot] ∧
      t.tracker = { s.tracker with reservations :=
        if i.first then s.tracker.reservations.filter (fun y => y.slot ≠ i.slot) else s.tracker.reservations } ∧
      KeptBut [.faults, .stats, .store, .claims, .tracker, .parity] s t) ∧
    (∀ p, m.state = .claimed p → m.recallMark = false → r.twoWay = false → r.repeatCount ≤ m.sends + 1 →
      t = counted (v.finishUnlinked i.slot m1 .sentBlind))

/-! ### Charges and accounts -/

/-- R146: the charge is the base plus ceil(c × r / 16), and for an URGENT page its percentage more, rounded half up; it
is at most 465,245 points, and it does not rise as the characters fall. -/
def Obligations.ChargeBoundedAndMonotone : Prop :=
  ∀ (base rate percent c : Nat) (plan : Plan) (cls : Nat),
    base ≤ 65535 → rate ≤ 4095 → percent ≤ 255 → c ≤ 256 →
    let b : Basis := ⟨base, rate, percent, plan, cls⟩
    let chars := (c * rate + 15) / 16
    let subtotal := base + chars
    let surcharge := (subtotal * percent + 50) / 100
    c * rate ≤ 1048320 ∧ chars ≤ 65520 ∧ subtotal ≤ 131055 ∧ surcharge ≤ 334190 ∧
    chargeFor b .routine c = subtotal ∧ chargeFor b .urgent c = subtotal + surcharge ∧
    chargeFor b .urgent c ≤ 465245 ∧
    ∀ p c', c' ≤ c → chargeFor b p c' ≤ chargeFor b p c

/-- R150: SENT_BLIND charges for every part, and any other outcome for the parts held: nothing where no part is charged
for, and otherwise the charge of R146 for the sum of their characters, at the message's priority and basis. Where the
hold is the charge for all the characters kept, the actual charge of every outcome is at most the hold, and it equals it
for a message whose parts are all charged for. -/
def Obligations.ActualChargeWithinHold : Prop :=
  (∀ (m : Msg) (ending : Ending), m.counts.length ≤ 8 →
    let parts := (List.range m.counts.length).filter (fun p => decide (ending = .sentBlind) || m.held.getLsbD p)
    let chars := (parts.map (fun p => m.counts.getD p 0)).sum
    chargedChars m ending = chars ∧
    actualCharge m ending = if parts = [] then 0 else chargeFor m.basis m.priority chars) ∧
  ∀ (m : Msg) (ending : Ending), m.hold = chargeFor m.basis m.priority m.counts.sum →
    actualCharge m ending ≤ m.hold ∧
    (1 ≤ m.counts.length → m.counts.length ≤ 8 →
      (ending = .sentBlind ∨ allParts m.counts.length &&& ~~~ m.held = 0) → actualCharge m ending = m.hold) ∧
    (ending ≠ .sentBlind → m.held = 0 → actualCharge m ending = 0)

/-- Settlement of a FINISHING message (R76 to R78, R151, R152): the account or the current bank moves by its charge;
with room and nobody waiting its USAGE record joins the queue's tail, its OUTCOME is added, and its slot goes to the
front of the free pool; otherwise it joins the finishing wait list with its settlement written. A record joins the
queue's tail with the next record number; one that enters an empty queue in SERVICE is READY with its stall timer at 0
(R163, R164), and otherwise the send state and the stall timer stay. A watch that a bad byte has armed below the
threshold stays armed (the model's choice, log 47). The bytes noted are of the places it writes (log 7). -/
def Obligations.SettlementChargesAndReleases : Prop :=
  (∀ (s : State) (body : RecordBody),
    let becomesHead := s.queue.records = [] ∧ s.unit.engine = .service ∧ s.unit.resetLow = false
    s.enqueue body = State.rewrite { s with queue := { s.queue with
      records := s.queue.records ++ [⟨s.queue.nextNumber, body⟩],
      nextNumber := (s.queue.nextNumber + 1) % 16777216,
      send := if becomesHead then some .ready else s.queue.send,
      stallFrom := if becomesHead then some s.now else s.queue.stallFrom } }
      [.record ((s.queue.head + s.queue.records.length) % 1024), .pointers, .nextNumber]) ∧
  ∀ (s : State) (slot : Nat) (m : Msg) (o : Ending) (f : Serial) (g : Stage),
    s.msg slot = some m → m.state = .finishing o f g → slot < 8192 →
    tableSorted s.subs = true → tableSorted s.store.msgs = true →
    let charge := actualCharge m o
    let r := s.sub m.subIndex
    let t := s.settle slot
    let r1 := t.sub m.subIndex
    let current := bankOf r s.queue.selector
    let settled : Settlement := ⟨chargedChars m o, charge,
      if m.basis.plan = .prepaid then some (r.balance + (m.hold - charge)) else none⟩
    (m.basis.plan = .prepaid →
      r1.balance = r.balance + (m.hold - charge) ∧ r1.held = r.held - m.hold ∧
      r1.armed = (r.armed || decide (r.threshold < r1.balance)) ∧ r1.bank0 = r.bank0 ∧ r1.bank1 = r.bank1) ∧
    (m.basis.plan = .postpaid →
      r1.balance = r.balance ∧ r1.held = r.held ∧ r1.armed = r.armed ∧
      bankOf r1 (otherBank s.queue.selector) = bankOf r (otherBank s.queue.selector) ∧
      bankOf r1 s.queue.selector =
        ⟨min 65535 (current.messages + 1), min 16777215 (current.characters + chargedChars m o),
         min 65535 (current.sends + m.sends), min 4294967295 (current.charge + charge)⟩) ∧
    (s.queue.records.length < 1024 → s.store.waitList = [] →
      t.queue.records = s.queue.records ++ [⟨s.queue.nextNumber, .usage (usageOf m o f settled)⟩] ∧
      t.queue.nextNumber = (s.queue.nextNumber + 1) % 16777216 ∧
      (s.queue.records = [] → s.unit.engine = .service → s.unit.resetLow = false →
        t.queue.send = some .ready ∧ t.queue.stallFrom = some s.now) ∧
      (s.queue.records ≠ [] → t.queue.send = s.queue.send ∧ t.queue.stallFrom = s.queue.stallFrom) ∧
      t.msg slot = none ∧ poolFront t.store.pool = some slot ∧
      r1.pendingList = r.pendingList.erase slot ∧ t.intake.runDue = true ∧
      t.span.notices.getLast? = some ⟨m.origin, outcomeOf m o f settled, 0⟩) ∧
    ((1024 ≤ s.queue.records.length ∨ s.store.waitList ≠ []) →
      t.queue = s.queue ∧ t.store.waitList = s.store.waitList ++ [slot] ∧
      t.msg slot = some { m with state := .finishing o f .queue, settlement := some settled } ∧
      r1.pendingList = r.pendingList ∧ t.span = s.span ∧ t.intake = s.intake) ∧
    KeptBut [.faults, .stats, .span, .subs, .intake, .store, .queue, .parity] s t

/-- TARIFF_STAGE (R143, R144): in UNSET it writes the active entry of its class and its loaded mark, and the state
becomes SET when all eight classes are marked; in SET it writes the staged entry and its staged mark. Every other entry
and mark stays. -/
def Obligations.TariffStageWritesItsClass : Prop :=
  ∀ (h : Header) (e : Env) (b : TariffBody) (s : State), s.takes h (.tariffStage b) = true →
    s.claims.startTest = false → tableSorted s.charge.active = true → tableSorted s.charge.staged = true →
    let c := b.cls.toNat
    let entry : TariffEntry := ⟨b.base.toNat, b.rate.toNat, b.percent.toNat⟩
    ∃ t, exec (.tariffStage h e b) s = .next t ∧ KeptBut [.now, .faults, .stats, .span, .charge, .parity] s t ∧
      (s.charge.set = false →
        (∀ k, tableGet t.charge.active noTariff k = if k = c then entry else tableGet s.charge.active noTariff k) ∧
        (∀ k < 8, t.charge.loaded.getLsbD k = (decide (k = c) || s.charge.loaded.getLsbD k)) ∧
        (t.charge.set = true ↔ ∀ k < 8, k = c ∨ s.charge.loaded.getLsbD k = true) ∧
        t.charge.staged = s.charge.staged ∧ t.charge.marks = s.charge.marks) ∧
      (s.charge.set = true →
        (∀ k, tableGet t.charge.staged noTariff k = if k = c then entry else tableGet s.charge.staged noTariff k) ∧
        (∀ k < 8, t.charge.marks.getLsbD k = (decide (k = c) || s.charge.marks.getLsbD k)) ∧
        t.charge.active = s.charge.active ∧ t.charge.loaded = s.charge.loaded ∧ t.charge.set = true)

/-- CREDIT (R153 to R156): not owned, VACANT and POSTPAID are answered so and change no record; a repeated tag is
answered from the record and applied no second time; a new credit is applied up to the headroom, 16,777,215 less the
balance and the held total, and its tag and result are kept. A watch that a bad byte has armed below the threshold stays
armed (the model's choice, log 47). Bad parity is noted in the subscriber record (log 7). -/
def Obligations.CreditAppliedUpToHeadroom : Prop :=
  ∀ (h : Header) (e : Env) (b : CreditBody) (s : State), s.takes h (.credit b) = true → s.claims.startTest = false →
    let answer (u : State) (x : CreditResult) (recorded : Bool) : State :=
      u.addNotice h.src.toNat (.creditAnswer b.tag.toNat b.number.toNat x recorded)
    let v := s.atFrame h e
    (s.decode b.number.toNat = none →
      exec (.credit h e b) s =
        .next (if h.dst.toNat = s.unit.setup.own then answer (s.atFrame h e) ⟨.notOwned, 0, 0, 0, 0⟩ false
               else s.atFrame h e)) ∧
    ∀ index, s.decode b.number.toNat = some index →
      let r := s.sub index
      let told (u : State) (x : CreditResult) (recorded : Bool) : State :=
        (answer u x recorded).noteReads [.subscriber index]
      let applied := min b.amount.toNat (16777215 - r.balance - r.held)
      let excess := b.amount.toNat - applied
      let result : CreditResult :=
        ⟨if excess = 0 then .applied else .capped, applied, excess, r.balance + applied, r.held⟩
      (r.state = .vacant → exec (.credit h e b) s = .next (told v ⟨.vacant, 0, 0, 0, 0⟩ false)) ∧
      (r.state ≠ .vacant → r.plan = .postpaid →
        exec (.credit h e b) s = .next (told v ⟨.notPrepaid, 0, 0, 0, 0⟩ false)) ∧
      (∀ x, r.state ≠ .vacant → r.plan = .prepaid → r.lastCredit = some (b.tag.toNat, x) →
        exec (.credit h e b) s = .next (told (v.bump .creditsRepeated) x true)) ∧
      (r.state ≠ .vacant → r.plan = .prepaid → (∀ x, r.lastCredit ≠ some (b.tag.toNat, x)) →
        let w := (v.putSub index { r with
          balance := r.balance + applied, lastCredit := some (b.tag.toNat, result),
          armed := r.armed || decide (r.threshold < r.balance + applied) }).bump .creditsApplied
        exec (.credit h e b) s =
          .next (told (if excess = 0 then w else w.bump .creditExcess) result false))

/-! ### Charge records and billing periods -/

/-- PERIOD_CLOSE (R166, R167, R145): a duplicate of the period held is ignored; one taken while a sweep is in flight is
ignored and counted; any other is accepted: the selector flips, the period is held, the sweep starts at 0 with count 0,
and every class staged is promoted and its mark cleared, and the close counted; with none staged no tariff is written.
Bad parity is noted in the period state, the tariff state and the staged entries promoted (log 7). -/
def Obligations.PeriodCloseJudged : Prop :=
  ∀ (h : Header) (e : Env) (p : Byte) (s : State), s.takes h (.periodClose p) = true → s.claims.startTest = false →
    tableSorted s.charge.active = true →
    (s.queue.period = some p.toNat → exec (.periodClose h e p) s = .next ((s.atFrame h e).noteReads [.period])) ∧
    (s.queue.period ≠ some p.toNat → s.queue.sweep.isSome = true →
      exec (.periodClose h e p) s = .next (((s.atFrame h e).bump .closesIgnored).noteReads [.period])) ∧
    (s.queue.period ≠ some p.toNat → s.queue.sweep = none →
      let staged := (List.range 8).filter s.charge.marks.getLsbD
      ∃ t, exec (.periodClose h e p) s = .next t ∧
        (let closed := ((s.atFrame h e).withQueue t.queue).rewrite [.period]
         let copied := closed.withCharge t.charge
         let promoted := if staged = [] then copied.noteReads [.tariffs]
           else (copied.rewrite (.tariffs :: staged.map StorePlace.active)).noteReads (staged.map StorePlace.staged)
         t = (promoted.bump .closesAccepted).noteReads [.period]) ∧
        t.queue = { s.queue with
          selector := otherBank s.queue.selector, period := some p.toNat, sweep := some ⟨0, 0, false⟩ } ∧
        (∀ c < 8, tableGet t.charge.active noTariff c =
          if s.charge.marks.getLsbD c then tableGet s.charge.staged noTariff c
          else tableGet s.charge.active noTariff c) ∧
        t.charge.marks = 0 ∧ t.charge.staged = s.charge.staged ∧ t.charge.set = s.charge.set ∧
        t.charge.loaded = s.charge.loaded ∧
        KeptBut [.now, .faults, .stats, .span, .charge, .queue, .parity] s t)

/-- PERIOD_SWEEP_STEP and PERIOD_SWEEP_COMPLETE (R168, R169): a record not due is passed over; one due, with the
occupancy below the high mark, has its closing bank's total queued, the bank zeroed and its mark set, and the count
rises by 1; at or above the high mark the sweep pauses where it is. Past the last index PERIOD DONE is queued under the
same condition. A record that enters an empty queue is READY with its stall timer at 0 (R163, R164). A place that no
number decodes to has the number `numberOf` gives it, and a sweep without a period the period 0 (the model's choices,
log 48). Bad parity is noted in the period state, the record the sweep is at, and for a record due or at the end the
queue's pointers (log 7). -/
def Obligations.PeriodSweepSteps : Prop :=
  ∀ (e : Env) (s : State) (w : Sweep), s.unit.engine = .service → s.unit.resetLow = false →
    s.queue.sweep = some w → w.paused = false → tableSorted s.subs = true →
    let u := s.advance e.moment
    let r := s.sub w.next
    let heads (t : State) : Prop :=
      (s.queue.records = [] → t.queue.send = some .ready ∧ t.queue.stallFrom = some (max s.now e.moment)) ∧
      (s.queue.records ≠ [] → t.queue.send = s.queue.send ∧ t.queue.stallFrom = s.queue.stallFrom)
    let closing := otherBank s.queue.selector
    let due : Prop := r.state ≠ .vacant ∧ r.plan = .postpaid ∧
      (r.mark ≠ s.queue.selector ∨ bankUsed (bankOf r closing) = true)
    let period := s.queue.period.getD 0
    (w.next < 32768 → ¬ due → exec (.periodSweepStep e) s =
      .next (State.noteReads (State.rewrite { u with
        queue := { s.queue with sweep := some { w with next := w.next + 1 } } } [.period]) [.period, .subscriber w.next])) ∧
    (w.next < 32768 → due → s.queue.records.length < s.unit.setup.highMark →
      ∃ t, exec (.periodSweepStep e) s = .next t ∧
        t = ((((u.enqueue (.periodTotal (s.numberOf w.next) period .closed false (bankOf r closing))).putSub w.next
          { putBank r closing ⟨0, 0, 0, 0⟩ with mark := s.queue.selector }).putSweep
            (some ⟨w.next + 1, w.count + 1, false⟩)).noteReads [.period, .subscriber w.next, .pointers]) ∧
        heads t ∧ t.queue.records = s.queue.records ++
          [⟨s.queue.nextNumber, .periodTotal (s.numberOf w.next) period .closed false (bankOf r closing)⟩] ∧
        t.queue.sweep = some ⟨w.next + 1, w.count + 1, false⟩ ∧
        t.sub w.next = { putBank r closing ⟨0, 0, 0, 0⟩ with mark := s.queue.selector } ∧
        (∀ i, i ≠ w.next → t.sub i = s.sub i) ∧ KeptBut [.now, .faults, .stats, .subs, .queue, .parity] s t) ∧
    (w.next < 32768 → due → s.unit.setup.highMark ≤ s.queue.records.length →
      exec (.periodSweepStep e) s =
        .next (State.noteReads { u with queue := { s.queue with sweep := some { w with paused := true } } }
          [.period, .subscriber w.next, .pointers])) ∧
    (32768 ≤ w.next → s.queue.records.length < s.unit.setup.highMark →
      ∃ t, exec (.periodSweepComplete e) s = .next t ∧
        t = (((u.enqueue (.periodDone period w.count)).putSweep none).noteReads [.period, .pointers]) ∧
        heads t ∧ t.queue.records = s.queue.records ++ [⟨s.queue.nextNumber, .periodDone period w.count⟩] ∧
        t.queue.sweep = none ∧ KeptBut [.now, .faults, .stats, .queue, .parity] s t) ∧
    (32768 ≤ w.next → s.unit.setup.highMark ≤ s.queue.records.length →
      exec (.periodSweepComplete e) s =
        .next (State.noteReads { u with queue := { s.queue with sweep := some { w with paused := true } } }
          [.period, .pointers]))

/-- WAIT_LIST_SERVE after a departure (R77): as many waiters as the queue has room for leave the head of the finishing
wait list, in its order, and their USAGE records join the queue's tail in that order; their slots are FREE. Without a
report to serve nothing happens (the model's choice, log 20). -/
def Obligations.WaitListServedInOrder : Prop :=
  (∀ (e : Env) (s : State), s.unit.engine = .service → s.unit.resetLow = false → s.store.serveDue = false →
    exec (.waitListServe e) s = .next { s with now := max s.now e.moment }) ∧
  ∀ (e : Env) (s : State), s.unit.engine = .service → s.unit.resetLow = false → s.store.serveDue = true →
    tableSorted s.store.msgs = true → s.queue.records.length ≤ 1024 → s.store.waitList.Nodup →
    (∀ slot ∈ s.store.waitList, ∃ m o f g z, s.msg slot = some m ∧ m.state = .finishing o f g ∧
      m.settlement = some z) →
    let k := min (1024 - s.queue.records.length) s.store.waitList.length
    ∃ t, exec (.waitListServe e) s = .next t ∧ t.store.serveDue = false ∧
      t.store.waitList = s.store.waitList.drop k ∧ t.queue.records.length = s.queue.records.length + k ∧
      t.queue.records.take s.queue.records.length = s.queue.records ∧
      (∀ i slot m o f g z, i < k → s.store.waitList[i]? = some slot → s.msg slot = some m →
        m.state = .finishing o f g → m.settlement = some z →
        t.msg slot = none ∧
        (t.queue.records[s.queue.records.length + i]?).map Record.body = some (.usage (usageOf m o f z))) ∧
      (∀ slot, slot ∉ s.store.waitList.take k → t.msg slot = s.msg slot) ∧
      KeptBut [.now, .faults, .stats, .span, .subs, .intake, .store, .queue, .parity] s t

/-! ### The Intake Unit -/

/-- Shaping (R44 to R46): the characters kept are at most 32 for each part the pager takes and are the first of those
sent, clamped to their kind; the parts are of 32 characters, the last holding the remainder; TONE has one part of 0
characters; and each flag is set exactly where its rule says. A TEXT pager shows every kind, a NUMERIC one NUMERIC and
TONE, a TONE one TONE; NUMERIC keeps the digits, space, '-', '(', ')', '*' and '#', any other character becoming a
space, and TEXT keeps the codes 32 to 126, any other becoming '?'. -/
def Obligations.ShapingKeepsParts : Prop :=
  (∀ kind, (shows .text kind = true) ∧ (shows .numeric kind = true ↔ kind = .numeric ∨ kind = .tone) ∧
    (shows .tone kind = true ↔ kind = .tone)) ∧
  (∀ c : Byte,
    clampChar .numeric c = (if (48 ≤ c.toNat ∧ c.toNat ≤ 57) ∨ c.toNat ∈ [32, 45, 40, 41, 42, 35] then c else 32) ∧
    clampChar .text c = (if 32 ≤ c.toNat ∧ c.toNat ≤ 126 then c else 63)) ∧
  ∀ (pager : Kind) (maxParts : Nat) (l : Latched), 1 ≤ maxParts → maxParts ≤ 8 → l.chars.length = min l.count 256 →
    let h := shapeFor pager maxParts l
    let tone := (l.kind = .tone ∨ l.count = 0 ∨ shows pager l.kind = false)
    (tone → h.kind = .tone ∧ h.chars = [] ∧ h.counts = [0] ∧ h.flags.clamped = false ∧ h.flags.truncated = false) ∧
    (¬ tone → h.kind = l.kind ∧
      h.chars = (l.chars.map (clampChar l.kind)).take (maxParts * 32) ∧
      h.counts.length = (h.chars.length + 31) / 32 ∧
      (∀ i c, h.counts[i]? = some c → c = min 32 (h.chars.length - 32 * i)) ∧
      (h.flags.clamped = true ↔ ∃ c ∈ l.chars, clampChar l.kind c ≠ c) ∧
      (h.flags.truncated = true ↔ maxParts * 32 < l.count)) ∧
    h.counts.sum = h.chars.length ∧ 1 ≤ h.counts.length ∧ h.counts.length ≤ maxParts ∧
    (h.flags.degraded = true ↔ shows pager l.kind = false ∧ ¬ (l.kind ≠ .tone ∧ l.count = 0))

/-- DEPOSIT performed at once (R42, R43, R47 to R49, R149, R158): the first refusal check that applies is answered; a
prepaid balance below E is refused NO_CREDIT with the shape and E; otherwise the message takes the front slot, QUEUED at
the tail of its feed's list at the home window, linked at the tail of the pending list, E is held on a prepaid account,
a downward crossing of the threshold makes a LOW BALANCE record, and the ANSWER is added last. Bad parity is noted in
the subscriber record, the tariff state and the class's entry where the checks come to them, the pool and the pointers
(log 7). A message that joins the tail of a list a walk is on, while that list's cursor is END, is named by it (R71),
and a join of a list of the claim window is a wake event, at which a WAITING slot tests for a composition (R103); a
cursor follows its list during a walk alone, and the test comes at the end of the change (the model's choices, logs 38
and 19), and a wake event while the slot is COMPOSING has no effect (log 40). A pool front that reads as a slot in use
or outside the map is taken as any other, and a watch that reads armed below its threshold stays armed (the model's
choices, log 47). A due list's head and tail are written where one of them changes (log 7). -/
def Obligations.DepositPerformedAtOnce : Prop :=
  (∀ u : State,
    (u.claims.slot = .waiting → u.wake = { u with claims := { u.claims with startTest := true } }) ∧
    (u.claims.slot ≠ .waiting → u.wake = u) ∧
    ∀ n : Nat, ((∃ w, u.claims.openWin = some w ∧ w.air.window = n) → u.wakeAt n = u.wake) ∧
      ((∀ w, u.claims.openWin = some w → w.air.window ≠ n) → u.wakeAt n = u)) ∧
  (∀ (u : State) (k : Nat) (l : List Nat),
    let w : State := { u with store := { u.store with due := tableSet u.store.due [] k l } }
    u.putDue k l = if l.head? = (u.dueList k).head? ∧ l.getLast? = (u.dueList k).getLast? then w
      else w.rewrite [.dueList k]) ∧
  (∀ (u : State) (slot : Nat) (m : Msg), u.putMsg slot m =
    State.rewrite { u with store := { u.store with msgs := tablePut u.store.msgs slot m } } [.message slot]) ∧
  (∀ (u : State) (slot : Nat) (f : Feed) (m : Msg), u.msg slot = some m →
    let home := (u.sub m.subIndex).homeWindow
    let l := u.dueList (dueKey home f)
    let joined := ((u.putDue (dueKey home f) (l ++ [slot])).putMsg slot { m with feed := some f }).rewrite
      (l.getLast?.map StorePlace.message).toList
    let walk := (∃ c, u.claims.slot = .composing c) ∧ ∃ w, u.claims.openWin = some w ∧ w.air.window = home
    (walk ∧ feedGet u.store.cursors f = none → u.joinDue slot f =
      { joined with store := { joined.store with cursors := feedPut u.store.cursors f (some slot) } }) ∧
    (¬ (walk ∧ feedGet u.store.cursors f = none) → u.joinDue slot f = joined.wakeAt home)) ∧
  ∀ (h : Header) (e : Env) (b : DepositBody) (s : State) (index : Nat), s.takes h (.deposit b) = true →
    s.claims.startTest = false → s.decode b.number.toNat = some index →
    (∀ d ∈ s.intake.table, ¬ (d.origin = h.src.toNat ∧ d.tag = b.tag.toNat)) →
    s.unit.setup.holdMark < poolCount s.store.pool → s.queue.records.length < s.unit.setup.highMark →
    (∀ d ∈ s.intake.table, d.status = .pending → ¬ (d.origin = h.src.toNat ∧ d.number = b.number.toNat)) →
    tableSorted s.subs = true → tableSorted s.store.due = true →
    let v := s.atFrame h e
    let src := h.src.toNat
    let tag := b.tag.toNat
    let number := b.number.toNat
    let r := s.sub index
    let priority : Priority := if b.priority.toNat = 1 then .urgent else .routine
    let shape := shapeFor r.pager r.maxParts ⟨priority, kindOfByte b.kind, b.chars.length, b.chars.take 256⟩
    let tariff := tableGet s.charge.active noTariff r.tariffClass
    let basis : Basis := ⟨tariff.base, tariff.rate, tariff.percent, r.plan, r.tariffClass⟩
    let cost := chargeFor basis priority shape.chars.length
    let told (l : List StorePlace) (body : NoticeBody) : State :=
      ((v.noteReads (.subscriber index :: l)).addNotice src body).noteReads [.pool, .pointers]
    let refused (l : List StorePlace) (reason : Reason) : State := told l
      (.answer ⟨tag, number, .refused, reason, 0, ⟨false, false, false⟩, .tone, 0, 0, 0, false⟩)
    let shaped (code : AnswerCode) (reason : Reason) (seq : Nat) : NoticeBody :=
      .answer ⟨tag, number, code, reason, seq, shape.flags, shape.kind, shape.counts.length, shape.chars.length, cost,
        false⟩
    let feed : Feed := if priority = .urgent then .urgent else .routine
    let crosses := r.plan = .prepaid ∧ r.threshold < r.balance ∧ r.balance - cost ≤ r.threshold ∧ r.armed = true
    (r.state = .vacant → exec (.deposit h e b) s = .next (refused [] .vacant)) ∧
    (r.state = .stopped → exec (.deposit h e b) s = .next (refused [] .stopped)) ∧
    (r.state = .active → s.charge.set = false → exec (.deposit h e b) s = .next (refused [.tariffs] .noTariff)) ∧
    (r.state = .active → s.charge.set = true → r.pendingLimit ≤ r.pendingList.length →
      exec (.deposit h e b) s = .next (refused [.tariffs] .listFull)) ∧
    (r.state = .active → s.charge.set = true → r.pendingList.length < r.pendingLimit →
      (r.plan = .prepaid → r.balance < cost →
        exec (.deposit h e b) s = .next (told [.tariffs, .active r.tariffClass] (shaped .refused .noCredit 0))) ∧
      ((r.plan = .prepaid → cost ≤ r.balance) →
        ∃ slot t, poolFront s.store.pool = some slot ∧ exec (.deposit h e b) s = .next t ∧
          t.store.pool = poolPop s.store.pool ∧
          t.msg slot = some {
            state := .queued, subIndex := index, number := number, seq := r.nextSeq, priority := priority,
            kind := shape.kind, flags := shape.flags, origin := src, tag := tag, accepted := s.clock.serial,
            counts := shape.counts, chars := shape.chars, aired := 0, held := 0, sends := 0, zones := none,
            link := none, feed := some feed, recallMark := false, basis := basis, hold := cost, settlement := none } ∧
          (∀ k, k ≠ slot → t.msg k = s.msg k) ∧
          t.sub index = { r with
            nextSeq := (r.nextSeq + 1) % 64, pendingList := r.pendingList ++ [slot],
            balance := if r.plan = .prepaid then r.balance - cost else r.balance,
            held := if r.plan = .prepaid then r.held + cost else r.held,
            armed := if crosses then false
              else if r.plan = .prepaid ∧ r.threshold < r.balance - cost then true else r.armed } ∧
          (∀ i, i ≠ index → t.sub i = s.sub i) ∧
          t.dueList (dueKey r.homeWindow feed) = s.dueList (dueKey r.homeWindow feed) ++ [slot] ∧
          (∀ k, k ≠ dueKey r.homeWindow feed → t.dueList k = s.dueList k) ∧
          t.queue.records = s.queue.records ++
            (if crosses then [⟨s.queue.nextNumber, .lowBalance number (r.balance - cost) r.threshold⟩] else []) ∧
          t.span.notices.getLast? = some ⟨src, shaped .accepted .none r.nextSeq, 0⟩ ∧
          (∀ w, s.claims.openWin = some w → w.air.window = r.homeWindow →
            (s.claims.slot = .waiting → s.clock.state = .tracking → w.sent < 16 →
              ∃ c, t.claims.slot = .composing c ∧ c.items = []) ∧
            (∀ c, s.claims.slot = .composing c → t.store.cursors =
              if feedGet s.store.cursors feed = none then feedPut s.store.cursors feed (some slot)
              else s.store.cursors)) ∧
          (s.claims.slot ≠ .waiting → t.claims = s.claims) ∧
          ((∀ w, s.claims.openWin = some w → w.air.window ≠ r.homeWindow) →
            t.claims = s.claims ∧ t.store.cursors = s.store.cursors) ∧
          KeptBut [.now, .faults, .stats, .span, .subs, .store, .claims, .queue, .parity] s t))

/-- DEPOSIT not performed (R39, R41, R42, R49): a number not owned gets silence; a sending of a PENDING deposit is
answered HOLD with the entry's number (log 12), one of a COMPLETE entry gets its recorded answer and takes the entry
out; and a new deposit under a hold condition is latched and answered HOLD, or refused BUSY when the table is full, bad
parity noted in the pool and the queue's pointers (log 7). -/
def Obligations.DepositHeldOrAnsweredAgain : Prop :=
  ∀ (h : Header) (e : Env) (b : DepositBody) (s : State), s.takes h (.deposit b) = true → s.claims.startTest = false →
    let v := s.atFrame h e
    let src := h.src.toNat
    let plain (tag number : Nat) (code : AnswerCode) (reason : Reason) : NoticeBody :=
      .answer ⟨tag, number, code, reason, 0, ⟨false, false, false⟩, .tone, 0, 0, 0, false⟩
    let isIt (d : Delayed) : Bool := decide (d.origin = src ∧ d.tag = b.tag.toNat)
    (s.decode b.number.toNat = none → exec (.deposit h e b) s = .next (s.atFrame h e)) ∧
    ∀ index, s.decode b.number.toNat = some index →
      (∀ d, s.intake.table.find? isIt = some d →
        (d.status = .pending → exec (.deposit h e b) s = .next (v.addNotice src (plain d.tag d.number .hold .none))) ∧
        (∀ a due, d.status = .complete a due →
          exec (.deposit h e b) s =
            .next ((v.withIntake { s.intake with table := s.intake.table.filter (fun x => !isIt x) }).addNotice src
              (.answer { a with recorded := true })))) ∧
      (s.intake.table.find? isIt = none →
        (poolCount s.store.pool ≤ s.unit.setup.holdMark ∨ s.unit.setup.highMark ≤ s.queue.records.length ∨
          ∃ d ∈ s.intake.table, d.status = .pending ∧ d.origin = src ∧ d.number = b.number.toNat) →
        (s.intake.table.length < 8 → exec (.deposit h e b) s =
          .next (((v.withIntake { s.intake with table := s.intake.table ++
            [⟨src, b.tag.toNat, b.number.toNat, index,
              ⟨if b.priority.toNat = 1 then .urgent else .routine, kindOfByte b.kind, b.chars.length,
                b.chars.take 256⟩, .pending⟩] }).addNotice src (plain b.tag.toNat b.number.toNat .hold .none)).noteReads
            [.pool, .pointers])) ∧
        (8 ≤ s.intake.table.length → exec (.deposit h e b) s =
          .next ((v.addNotice src (plain b.tag.toNat b.number.toNat .refused .busy)).noteReads [.pool, .pointers])))

/-- DELAYED_DEPOSIT_RUN and DISCARD_TIMER_EXPIRY (R50, R51): a report starts one run; PENDING entries are performed one
by one, oldest first, each as a DEPOSIT of its fields would be at once, with the state and the ANSWER that gives, and
becomes COMPLETE with that ANSWER and its discard timer started, until a hold mark stops the run or none is left; the
marks are read before each, bad parity noted in the pool and the queue's pointers (log 7). A COMPLETE entry whose timer
runs out is discarded and counted; that the expiry is believed whenever the entry is COMPLETE, the time base moving to
the timer's end, is the model's choice (log 5), and so is a run without a report to serve, at which nothing happens (log
20). -/
def Obligations.DelayedRunPerformsOldestFirst : Prop :=
  (∀ (e : Env) (s : State), s.unit.engine = .service → s.unit.resetLow = false → s.intake.runDue = true →
    DelayedTableKeyed s →
    let u := (s.advance e.moment).withIntake { s.intake with runDue := false }
    let waiting := s.intake.table.filter (fun d => decide (d.status = .pending))
    let clear (v : State) : Prop :=
      v.unit.setup.holdMark < poolCount v.store.pool ∧ v.queue.records.length < v.unit.setup.highMark
    let performed (v : State) (d : Delayed) : State :=
      let w := (v.perform d).1
      State.noteReads { w with intake := { w.intake with table := w.intake.table.map (fun x =>
          if x.origin = d.origin ∧ x.tag = d.tag then
            { x with status := .complete (v.perform d).2 (v.now + v.unit.setup.discardTime * 1000) }
          else x) } } [.pool, .pointers]
    ∃ k, k ≤ waiting.length ∧
      exec (.delayedDepositRun e) s =
        .next (if k = waiting.length then ((waiting.take k).foldl performed u).testStart
          else (((waiting.take k).foldl performed u).noteReads [.pool, .pointers]).testStart) ∧
      (∀ j < k, clear ((waiting.take j).foldl performed u)) ∧
      (k = waiting.length ∨ ¬ clear ((waiting.take k).foldl performed u))) ∧
  (∀ (h : Header) (e : Env) (b : DepositBody) (s : State) (index : Nat), s.takes h (.deposit b) = true →
    s.decode b.number.toNat = some index →
    (∀ d ∈ s.intake.table, ¬ (d.origin = h.src.toNat ∧ d.tag = b.tag.toNat)) →
    s.unit.setup.holdMark < poolCount s.store.pool → s.queue.records.length < s.unit.setup.highMark →
    (∀ d ∈ s.intake.table, d.status = .pending → ¬ (d.origin = h.src.toNat ∧ d.number = b.number.toNat)) →
    let done := (s.atFrame h e).perform ⟨h.src.toNat, b.tag.toNat, b.number.toNat, index,
      ⟨if b.priority.toNat = 1 then .urgent else .routine, kindOfByte b.kind, b.chars.length, b.chars.take 256⟩,
      .pending⟩
    exec (.deposit h e b) s =
      .next ((done.1.addNotice h.src.toNat (.answer done.2)).noteReads [.pool, .pointers]).testStart) ∧
  (∀ (e : Env) (s : State), s.unit.engine = .service → s.unit.resetLow = false → s.intake.runDue = false →
    s.claims.startTest = false → exec (.delayedDepositRun e) s = .next { s with now := max s.now e.moment }) ∧
  (∀ (o : BitVec 5) (tag : BitVec 16) (s : State) (d : Delayed) (a : Answer) (due : Nat),
    s.unit.engine = .service → s.unit.resetLow = false →
    s.intake.table.find? (fun x => decide (x.origin = o.toNat ∧ x.tag = tag.toNat)) = some d →
    d.status = .complete a due →
    exec (.discardTimerExpiry o tag) s =
      .next (State.bump { s with
        now := max s.now due,
        intake := { s.intake with
          table := s.intake.table.filter (fun x => !decide (x.origin = o.toNat ∧ x.tag = tag.toNat)) } }
        .discardedCompletions))

/-- RECALL (R54 to R59): a number not owned gets silence; with no pending message of the sequence the answer is
NOT_FOUND; a FINISHING message is TOO_LATE, a CLAIMED one is marked and NOTED, and a QUEUED, RESTING or AWAITING one is
CANCELLED, answered before its settlement; a second RECALL of a marked one changes nothing but its answer (R56); a
composition or prepared claim that names it is abandoned. The search ends after 16 slots of the pending list, bad parity
noted in the subscriber record and the messages come to (log 7). FINISHING (R74), as every block asks for it: a
FINISHING message refuses it; any other takes the outcome and the current serial, loses its outstanding entry and its
place on its due list, and goes straight to settlement, or, where a claim names it, to stage CLAIM, when a claim not yet
sent is abandoned; the presence of its claim link alone says so, after a bad byte too (the model's choice, log 45). The
removal of its entry is a wake event (R103). A walk's cursor that names the message moves on to its successor on the
list, and where that is END for the feed the walk stays with, the arbiter makes its new choice at once (R71, R107); no
other cursor changes, and none while no walk is on its list (the model's choice, log 38). Bad parity of the serial is
noted as a message enters FINISHING (log 7). -/
def Obligations.RecallAnsweredByState : Prop :=
  (∀ (s : State) (slot : Nat) (m : Msg) (o : Ending), s.msg slot = some m → tableSorted s.store.due = true →
    let t := s.enterFinishing slot m o
    let home := (s.sub m.subIndex).homeWindow
    t = (((s.putMsg slot { m with
      state := .finishing o s.clock.serial (if m.link.isSome then .claim else .queue) }).removeEntry slot).leaveDue
      slot).noteReads [.serial] ∧
    t.msg slot = some { m with
      state := .finishing o s.clock.serial (if m.link.isSome then .claim else .queue), feed := none } ∧
    (∀ k, k ≠ slot → t.msg k = s.msg k) ∧
    t.tracker = (if (s.entryOf slot).isSome then { s.tracker with
        entries := s.tracker.entries.filter (fun x => x.slot ≠ slot),
        deadlines := s.tracker.deadlines.filter (fun x => x ≠ slot) }
      else s.tracker) ∧
    (∀ f, m.feed = some f → t.dueList (dueKey home f) = (s.dueList (dueKey home f)).erase slot) ∧
    (∀ k, (∀ f, m.feed = some f → k ≠ dueKey home f) → t.dueList k = s.dueList k) ∧
    KeptBut [.faults, .stats, .store, .claims, .tracker, .parity] s t ∧
    ((∃ x f g, m.state = .finishing x f g) → s.finish slot o = s) ∧
    ((∀ x f g, m.state ≠ .finishing x f g) →
      (m.link = none → s.finish slot o = t.settle slot) ∧
      (m.link.isSome = true → m.state = .queued ∨ (∃ nb, m.state = .resting nb) → s.finish slot o = t.abandon) ∧
      (m.link.isSome = true → m.state = .awaiting ∨ (∃ p, m.state = .claimed p) → s.finish slot o = t))) ∧
  (∀ (u : State) (slot : Nat) (m : Msg) (o : Ending),
    u.finishUnlinked slot m o = (u.enterFinishing slot m o).settle slot) ∧
  (∀ (u : State) (slot : Nat),
    (u.entryOf slot = none → u.removeEntry slot = u) ∧
    (∀ x, u.entryOf slot = some x → u.removeEntry slot = (u.withTracker { u.tracker with
      entries := u.tracker.entries.filter (fun y => y.slot ≠ slot),
      deadlines := u.tracker.deadlines.filter (fun y => y ≠ slot) }).wake)) ∧
  (∀ (u : State) (slot : Nat) (m : Msg), u.msg slot = some m →
    (m.feed = none → u.leaveDue slot = u) ∧
    ∀ (f : Feed) (before after : List Nat), m.feed = some f →
      let home := (u.sub m.subIndex).homeWindow
      u.dueList (dueKey home f) = before ++ slot :: after → slot ∉ before → slot ∉ after →
      let left := ((u.putDue (dueKey home f) (before ++ after)).putMsg slot { m with feed := none }).rewrite
        ((before.getLast?.toList ++ after.head?.toList).map StorePlace.message)
      let moved : State := { left with
        store := { left.store with cursors := feedPut u.store.cursors f after.head? } }
      let follows := (∃ w, u.claims.openWin = some w ∧ w.air.window = home) ∧ feedGet u.store.cursors f = some slot
      (∀ c, u.claims.slot = .composing c → follows →
        (¬ (after = [] ∧ c.chosen = some f) → u.leaveDue slot = moved) ∧
        (after = [] → c.chosen = some f → ∀ g a,
          arbiterChoose u.unit.setup.feeds (liveFeeds moved.store.cursors) u.claims.arbiter = (g, a) →
          u.leaveDue slot = { moved with
            claims := { u.claims with arbiter := a, slot := .composing { c with chosen := g } } })) ∧
      (¬ ((∃ c, u.claims.slot = .composing c) ∧ follows) → u.leaveDue slot = left)) ∧
  ∀ (h : Header) (e : Env) (b : RecallBody) (s : State), s.takes h (.recall b) = true → s.claims.startTest = false →
    let v := s.atFrame h e
    let answer (code : RecallCode) (held : PartMask) (u : State) : State :=
      u.addNotice h.src.toNat (.recallAnswer b.number.toNat b.seq.toNat code held)
    (s.decode b.number.toNat = none → exec (.recall h e b) s = .next (s.atFrame h e)) ∧
    ∀ index, s.decode b.number.toNat = some index →
      let noted (l : List Nat) (u : State) : State := u.noteReads (.subscriber index :: l.map StorePlace.message)
      ((∀ k ∈ (s.sub index).pendingList.take 16, ∀ m, s.msg k = some m → m.seq ≠ b.seq.toNat) →
        exec (.recall h e b) s = .next (noted ((s.sub index).pendingList.take 16) (answer .notFound 0 v))) ∧
      ∀ before slot after m, (s.sub index).pendingList = before ++ slot :: after → before.length < 16 →
        let found := noted (before ++ [slot])
        (∀ k ∈ before, ∀ x, s.msg k = some x → x.seq ≠ b.seq.toNat) → s.msg slot = some m → m.seq = b.seq.toNat →
        (∀ o f g, m.state = .finishing o f g → exec (.recall h e b) s = .next (found (answer .tooLate m.held v))) ∧
        (∀ p, m.state = .claimed p →
          exec (.recall h e b) s =
            .next (found (answer .noted m.held
              (if m.recallMark then v else v.putMsg slot { m with recallMark := true })))) ∧
        (m.state = .queued ∨ (∃ nb, m.state = .resting nb) ∨ m.state = .awaiting →
          (m.link = none → exec (.recall h e b) s =
            .next ((found ((answer .cancelled m.held (v.enterFinishing slot m .cancelled)).settle slot)).testStart)) ∧
          (m.link.isSome = true → m.state ≠ .awaiting → exec (.recall h e b) s =
            .next ((found ((answer .cancelled m.held (v.enterFinishing slot m .cancelled)).abandon)).testStart)))

/-! ### The Subscriber Table -/

/-- R20, R21: with windows that do not overlap, a number is owned exactly when it lies in one of them, and its local
index is the counts of the windows before it plus its distance from the window's first number; no two numbers share an
index. -/
def Obligations.NumbersDecodeThroughWindows : Prop :=
  ∀ (s : State) (number index : Nat), windowsApart s.unit.setup.windows = true →
    (s.decode number = some index ↔
      ∃ before w after, s.unit.setup.windows = before ++ w :: after ∧
        w.first ≤ number ∧ number < w.first + w.count ∧
        index = (before.map NumWindow.count).sum + (number - w.first)) ∧
    (s.decode number = none ↔ ∀ w ∈ s.unit.setup.windows, ¬ (w.first ≤ number ∧ number < w.first + w.count)) ∧
    (s.decode number = some index → s.numberOf index = number)

/-- LOAD_SET (R30 to R34, R37): each refusal in its order leaves the record as it was; a SET on a VACANT record creates
it; a SET on another replaces its fields, keeping the account, and empties the banks with FINAL totals when the plan
leaves POSTPAID. A field is in range as section 2.4 says; the locked fields are the air tag, home window, pager kind,
two-way flag, max parts and plan; and a repeat count is refused that is lowered below the sends of a pending message, or
below the sends plus 1 of a one-way CLAIMED one, of the first 16 the walk comes to. Where the repeat count changes, the
pending messages of a one-way subscriber are walked: one RESTING with sends at or above the new count finishes
SENT_BLIND, and any other is left (R128); a list longer than 16 is walked whole, and a slot on it that reads FREE passed
over (the model's choice, log 47). Bad parity is noted in the record, and in the period state, the pointers and the
messages walked only where the SET comes to read them (log 7): the queue is not looked at where a lock refuses it (R34).
-/
def Obligations.LoadSetCreatesOrReplaces : Prop :=
  (∀ b : LoadBody, loadInRange b = true ↔
    b.state.toNat ≤ 1 ∧ b.airTag.toNat ≤ 2097151 ∧ b.home.toNat ≤ 74 ∧ b.pager.toNat ≤ 2 ∧ b.twoWay.toNat ≤ 1 ∧
    (1 ≤ b.maxParts.toNat ∧ b.maxParts.toNat ≤ 8) ∧ (1 ≤ b.repeatCount.toNat ∧ b.repeatCount.toNat ≤ 3) ∧
    b.plan.toNat ≤ 1 ∧ b.tariffClass.toNat ≤ 7 ∧ (1 ≤ b.pendingLimit.toNat ∧ b.pendingLimit.toNat ≤ 16)) ∧
  (∀ (r : Subscriber) (b : LoadBody), loadInRange b = true →
    (changesLocked r b = false ↔
      r.airTag = b.airTag.toNat ∧ r.homeWindow = b.home.toNat ∧
      [Kind.tone, .numeric, .text].idxOf r.pager = b.pager.toNat ∧ (if r.twoWay then 1 else 0) = b.twoWay.toNat ∧
      r.maxParts = b.maxParts.toNat ∧ [Plan.prepaid, .postpaid].idxOf r.plan = b.plan.toNat)) ∧
  (∀ (s : State) (r : Subscriber) (b : LoadBody),
    s.lowersBelowSends r b = true ↔
      b.repeatCount.toNat < r.repeatCount ∧ ∃ slot ∈ r.pendingList.take 16, ∃ m, s.msg slot = some m ∧
        (b.repeatCount.toNat < m.sends ∨
          (r.twoWay = false ∧ (∃ p, m.state = .claimed p) ∧ b.repeatCount.toNat < m.sends + 1))) ∧
  (∀ (n : Nat) (u : State) (slot : Nat) (m : Msg), u.msg slot = some m →
    ((∃ nb, m.state = .resting nb) → n ≤ m.sends → State.blindIfRepeated n u slot = u.finish slot .sentBlind) ∧
    (¬ ((∃ nb, m.state = .resting nb) ∧ n ≤ m.sends) → State.blindIfRepeated n u slot = u)) ∧
  ∀ (h : Header) (e : Env) (b : LoadBody) (s : State), s.takes h (.load 0 b) = true → s.claims.startTest = false →
    let v := s.atFrame h e
    let tell (u : State) (code : LoadCode) (reason : BusyReason) (count : Nat) (state : SubState) : State :=
      u.addNotice h.src.toNat (.loadAnswer b.tag.toNat b.number.toNat code reason count 0 state)
    (s.decode b.number.toNat = none → exec (.loadSet h e b) s =
      .next (if h.dst.toNat = s.unit.setup.own then tell (s.atFrame h e) .notOwned .none 0 .vacant
             else s.atFrame h e)) ∧
    ∀ index, s.decode b.number.toNat = some index → tableSorted s.subs = true →
      let r := s.sub index
      let plan : Plan := if b.plan.toNat = 0 then .prepaid else .postpaid
      let state : SubState := if b.state.toNat = 0 then .active else .stopped
      let leaves := r.plan = .postpaid ∧ plan = .prepaid
      let noted (u : State) : State := u.noteReads (.subscriber index ::
        (if leaves then [.period, .pointers] else []) ++
        (if r.repeatCount ≠ b.repeatCount.toNat then r.pendingList.map StorePlace.message else []))
      let same (code : LoadCode) (reason : BusyReason) : State := tell v code reason r.pendingList.length r.state
      (loadInRange b = false →
        exec (.loadSet h e b) s = .next ((same .badField .none).noteReads [.subscriber index])) ∧
      (loadInRange b = true → r.state = .vacant →
        let opening := if plan = .prepaid then b.opening.toNat else 0
        exec (.loadSet h e b) s = .next (State.noteReads (tell (v.putSub index {
          state := state, airTag := b.airTag.toNat, homeWindow := b.home.toNat, pager := kindOfByte b.pager,
          twoWay := decide (b.twoWay.toNat = 1), maxParts := b.maxParts.toNat, repeatCount := b.repeatCount.toNat,
          plan := plan, tariffClass := b.tariffClass.toNat, pendingLimit := b.pendingLimit.toNat,
          balance := opening, held := 0, threshold := b.threshold.toNat,
          armed := decide (plan = .prepaid ∧ b.threshold.toNat < opening), lastCredit := none, nextSeq := 0,
          pendingList := [], lastHeard := none, bank0 := ⟨0, 0, 0, 0⟩, bank1 := ⟨0, 0, 0, 0⟩,
          mark := s.queue.selector }) .done .none 0 state) [.subscriber index, .period])) ∧
      (loadInRange b = true → r.state ≠ .vacant → r.pendingList ≠ [] → changesLocked r b = true →
        exec (.loadSet h e b) s = .next ((same .busy .pending).noteReads [.subscriber index])) ∧
      (loadInRange b = true → r.state ≠ .vacant → ¬ (r.pendingList ≠ [] ∧ changesLocked r b = true) →
        (s.lowersBelowSends r b = true → exec (.loadSet h e b) s = .next ((same .busy .sends).noteReads
          (.subscriber index :: (r.pendingList.take 16).map StorePlace.message))) ∧
        (s.lowersBelowSends r b = false →
          (leaves → 1024 < s.queue.records.length + (s.finalTotals index b.number.toNat r).length →
            exec (.loadSet h e b) s = .next (noted (same .busy .queueFull))) ∧
          (¬ (leaves ∧ 1024 < s.queue.records.length + (s.finalTotals index b.number.toNat r).length) →
            let emptied := v.queueFinals index b.number.toNat r
            let w := (if leaves then emptied else v).putSub index { r with
              state := state, airTag := b.airTag.toNat, homeWindow := b.home.toNat, pager := kindOfByte b.pager,
              twoWay := decide (b.twoWay.toNat = 1), maxParts := b.maxParts.toNat,
              repeatCount := b.repeatCount.toNat, plan := plan, tariffClass := b.tariffClass.toNat,
              pendingLimit := b.pendingLimit.toNat, threshold := b.threshold.toNat,
              armed := decide (plan = .prepaid ∧ b.threshold.toNat < r.balance),
              lastHeard := if r.airTag = b.airTag.toNat then r.lastHeard else none,
              bank0 := if leaves then ⟨0, 0, 0, 0⟩ else r.bank0, bank1 := if leaves then ⟨0, 0, 0, 0⟩ else r.bank1 }
            let walked :=
              if r.repeatCount = b.repeatCount.toNat ∨ r.twoWay = true then w
              else r.pendingList.foldl (State.blindIfRepeated b.repeatCount.toNat) w
            exec (.loadSet h e b) s =
              .next (noted (tell walked .done .none (walked.sub index).pendingList.length
                (walked.sub index).state)).testStart ∧
            emptied.queue.records.map Record.body =
              s.queue.records.map Record.body ++ s.finalTotals index b.number.toNat r ∧
            emptied.queue.sweep = s.queue.sweep.map (fun x =>
              if s.closingFinal index r then { x with count := x.count + 1 } else x) ∧
            KeptBut [.now, .faults, .stats, .span, .queue, .parity] s emptied)))

/-- LOAD_VACATE and LOAD_OTHER_OPERATION (R30, R35 to R37): a VACANT record stays so and is answered DONE; one with
messages pending is BUSY; a prepaid one becomes VACANT with its balance in the answer; a postpaid one queues its FINAL
totals first, or is BUSY when they do not fit. An operation other than 0 and 1 is BAD_FIELD and changes no record. The
FINAL totals are the closing bank's and then the current one's, each where a counter of it is above 0; the closing bank
makes one also while a sweep in flight has not reached the record and the record's mark is not the selector, and a sweep
has not reached the record of its next index (the model's choice, log 34). Bad parity is noted in the record and, where
a VACATE comes to emptying the banks, the period state and the pointers (log 7). -/
def Obligations.LoadVacatesOrAnswersBadField : Prop :=
  (∀ (s : State) (index number : Nat) (r : Subscriber),
    let closing := bankOf r (otherBank s.queue.selector)
    let current := bankOf r s.queue.selector
    let used (x : Bank) : Prop := ¬ (x.messages = 0 ∧ x.characters = 0 ∧ x.sends = 0 ∧ x.charge = 0)
    let period := s.queue.period.getD 0
    (s.closingFinal index r = true ↔
      used closing ∨ (r.mark ≠ s.queue.selector ∧ ∃ w, s.queue.sweep = some w ∧ w.next ≤ index)) ∧
    (∀ x, x ∈ s.finalTotals index number r ↔
      (s.closingFinal index r = true ∧ x = .periodTotal number period .closed true closing) ∨
        (used current ∧ x = .periodTotal number period .opened true current)) ∧
    (s.closingFinal index r = true → used current → s.finalTotals index number r =
      [.periodTotal number period .closed true closing, .periodTotal number period .opened true current]) ∧
    (s.finalTotals index number r).Nodup) ∧
  ∀ (h : Header) (e : Env) (b : LoadBody) (s : State), s.claims.startTest = false →
    let v := s.atFrame h e
    let tell (u : State) (code : LoadCode) (reason : BusyReason) (count released : Nat) (state : SubState) : State :=
      u.addNotice h.src.toNat (.loadAnswer b.tag.toNat b.number.toNat code reason count released state)
    let unowned : State :=
      if h.dst.toNat = s.unit.setup.own then tell (s.atFrame h e) .notOwned .none 0 0 .vacant else s.atFrame h e
    (s.takes h (.load 1 b) = true → s.decode b.number.toNat = none → exec (.loadVacate h e b) s = .next unowned) ∧
    (∀ index, s.takes h (.load 1 b) = true → s.decode b.number.toNat = some index → tableSorted s.subs = true →
      let r := s.sub index
      let totals := s.finalTotals index b.number.toNat r
      let noted (u : State) : State := u.noteReads (.subscriber index ::
        (if r.state ≠ .vacant ∧ r.pendingList = [] ∧ r.plan = .postpaid then [.period, .pointers] else []))
      (r.state = .vacant →
        exec (.loadVacate h e b) s = .next (noted (tell v .done .none r.pendingList.length 0 .vacant))) ∧
      (r.state ≠ .vacant → r.pendingList ≠ [] →
        exec (.loadVacate h e b) s = .next (noted (tell v .busy .pending r.pendingList.length 0 r.state))) ∧
      (r.state ≠ .vacant → r.pendingList = [] → r.plan = .prepaid →
        exec (.loadVacate h e b) s =
          .next (noted (tell (v.putSub index Subscriber.vacant) .done .none 0 r.balance .vacant))) ∧
      (r.state ≠ .vacant → r.pendingList = [] → r.plan = .postpaid →
        (1024 < s.queue.records.length + totals.length →
          exec (.loadVacate h e b) s = .next (noted (tell v .busy .queueFull 0 0 r.state))) ∧
        (s.queue.records.length + totals.length ≤ 1024 →
          ∃ t, exec (.loadVacate h e b) s = .next t ∧ t.sub index = Subscriber.vacant ∧
            (∀ k, k ≠ index → t.sub k = s.sub k) ∧
            t.queue.records.map Record.body = s.queue.records.map Record.body ++ totals ∧
            t.span.notices.getLast? = some ⟨h.src.toNat,
              .loadAnswer b.tag.toNat b.number.toNat .done .none 0 0 .vacant, 0⟩ ∧
            KeptBut [.now, .faults, .stats, .span, .subs, .queue, .parity] s t))) ∧
    (∀ op : Byte, s.takes h (.load op b) = true → s.decode b.number.toNat = none →
      exec (.loadOtherOperation h e op b) s = .next unowned) ∧
    (∀ (op : Byte) (index : Nat), op ≠ 0 → op ≠ 1 → s.takes h (.load op b) = true →
      s.decode b.number.toNat = some index →
      exec (.loadOtherOperation h e op b) s =
        .next ((tell v .badField .none (s.sub index).pendingList.length 0 (s.sub index).state).noteReads
          [.subscriber index]))

/-! ### Queries -/

/-- The five query rows (R183, R184): each is answered to its source with what it asks about as it stands when the QUERY
is taken. STATS gives the engine state and last start, the causes and the last error address, every counter, the free
count, the PENDING and COMPLETE entries, the notice queue's length, the outstanding entries, reservations and WAITING
entries, the queue's occupancy, the wait list's length, the period state and the tariffs, the QUERY's own parity errors
latched and counted beforehand (the model's choice, log 7). A message not FREE is given whole, with its links, read from
the lists it stands on (log 27), and the state of its outstanding entry. A slot on a pending list that reads FREE is
left out of its subscriber's answer, and one off the pool's chain has the slot after it as its link (the model's
choices, log 47). A query of the clock reports its seven counters with its fields and the ages of its marks. The
clearing query then sets every counter to 0 and clears the last error address and every cause but SETUP_BAD. A
subscriber number not owned is answered so, or not at all when the QUERY went to all. -/
def Obligations.QueriesAnswerWhatStands : Prop :=
  (∀ s : State, s.statsView =
    { engine := s.unit.engine, lastStart := s.unit.lastStart, causes := s.faults.causes, lastError := s.faults.lastError,
      stats := s.stats, freeCount := poolCount s.store.pool,
      pendingEntries := (s.intake.table.filter (fun d => decide (d.status = .pending))).length,
      completeEntries := (s.intake.table.filter (fun d => decide (d.status ≠ .pending))).length,
      notices := s.span.notices.length, entries := s.tracker.entries.length,
      reservations := s.tracker.reservations.length,
      waitingEntries := (s.tracker.entries.filter (fun x => decide (x.state ≠ .between))).length,
      occupancy := s.queue.records.length, waitList := s.store.waitList.length, period := s.queue.period,
      selector := s.queue.selector, sweep := s.queue.sweep, tariffs := s.charge }) ∧
  (∀ (s : State) (slot : Nat),
    (∀ x, s.tracker.entries.find? (fun y => y.slot = slot) = some x →
      (∀ d, x.state = .waiting d → s.entryView slot = .waiting d) ∧ (x.state = .between → s.entryView slot = .between)) ∧
    (s.tracker.entries.find? (fun y => y.slot = slot) = none →
      ((∃ r ∈ s.tracker.reservations, r.slot = slot) → s.entryView slot = .reservation) ∧
      ((∀ r ∈ s.tracker.reservations, r.slot ≠ slot) → s.entryView slot = .none))) ∧
  (∀ (s : State) (slot : Nat) (m : Msg),
    let neighbours (l : List Nat) (before after : Option Nat) : Prop :=
      (∀ a b, l = a ++ slot :: b → slot ∉ a → slot ∉ b → before = a.getLast? ∧ after = b.head?) ∧
      (slot ∉ l → before = none ∧ after = none)
    let x := s.linksOf slot m
    (∀ f, m.feed = some f → neighbours (s.dueList (dueKey (s.sub m.subIndex).homeWindow f)) x.duePrev x.dueNext) ∧
    (m.feed = none → x.duePrev = none ∧ x.dueNext = none) ∧
    neighbours (s.sub m.subIndex).pendingList x.pendPrev x.pendNext ∧
    ∃ before, neighbours s.store.waitList before x.chain) ∧
  ∀ (h : Header) (e : Env) (s : State), s.claims.startTest = false →
    let u := s.atFrame h e
    let v := u.noteReads ([.pool, .waitList, .pointers, .period, .tariffs] ++ (List.range 8).map StorePlace.active ++
      (List.range 8).map StorePlace.staged)
    let tell (u : State) (tag : BitVec 16) (kind : QueryKind) (c : QueryContents) : State :=
      u.addNotice h.src.toNat (.queryAnswer tag.toNat kind c)
    (∀ tag arg, s.takes h (.query 0 ⟨tag, 0, arg⟩) = true →
      exec (.queryStats h e tag arg) s = .next (tell v tag .stats (.stats v.statsView))) ∧
    (∀ tag arg, s.takes h (.query 0 ⟨tag, 1, arg⟩) = true →
      exec (.queryStatsClear h e tag arg) s =
        .next (tell { v with
          stats := [],
          faults := { v.faults with
            causes := ⟨v.faults.causes.setupBad, false, false, false, false⟩, lastError := none } }
          tag .stats (.stats v.statsView))) ∧
    (∀ b, s.takes h (.query 1 b) = true →
      (∀ index, s.decode b.arg.toNat = some index →
        exec (.querySubscriber h e b) s = .next ((tell u b.tag .subscriber
          (.subscriber index (s.sub index) ((s.sub index).pendingList.filterMap (fun slot =>
            (s.msg slot).map (fun m => (slot, m.seq, m.state)))))).noteReads
          (.subscriber index :: (s.sub index).pendingList.map StorePlace.message))) ∧
      (s.decode b.arg.toNat = none →
        exec (.querySubscriber h e b) s =
          .next (if h.dst.toNat = s.unit.setup.own then tell u b.tag .subscriber .notOwned else u))) ∧
    (∀ b, s.takes h (.query 2 b) = true →
      (∀ m, s.msg b.arg.toNat = some m →
        exec (.queryMessage h e b) s = .next ((tell u b.tag .message
          (.message m (s.linksOf b.arg.toNat m) (s.entryView b.arg.toNat))).noteReads
          (.message b.arg.toNat :: (List.range m.chars.length).map (StorePlace.character b.arg.toNat)))) ∧
      (s.msg b.arg.toNat = none →
        exec (.queryMessage h e b) s =
          .next ((tell u b.tag .message (.freeSlot (poolNext s.store.pool b.arg.toNat))).noteReads
            [.message b.arg.toNat]))) ∧
    (∀ b, s.takes h (.query 3 b) = true →
      exec (.queryClock h e b) s = .next ((tell u b.tag .clock
        (.clock s.clock ⟨s.stat .marksEarly, s.stat .marksLate, s.stat .marksOutOfStep, s.stat .marksMissed,
            s.stat .clockJumps, s.stat .clockAcquired, s.stat .clockLosses⟩
          (s.clock.candidate.map (fun c => e.moment - c.arrival))
          (s.clock.held.map (fun x => e.moment - x.arrival)))).noteReads [.serial]))

/-! ### Invariants -/

/-- The machine right after reset: INIT, waiting for the setup read; no cause, line timer or error address (R176, R180);
every counter 0; the notice queue empty and the medium without a frame of its own (R18); the delayed deposit table empty
(R60); the clock in SEARCH with every field absent and the serial 0 (R84, R95); the claim slot IDLE with no window, fill
view, grant holder or blocked pair (R98, R121); the outstanding table and its lists empty (R140); the tariffs UNSET
(R142); the record queue empty with number 0, no period and no sweep (R165, R172); every subscriber VACANT, every slot
FREE and every list empty; and every invariant below. That the store already stands at the INIT sweep's values, every
byte with good parity, that the last start reads COLD and the slot is not driven, that the setup copy is blank, on which
the bound of the high mark rests, and that the time base reads 0 are the model's choice (logs 1 to 4). -/
def Obligations.ResetMeetsInvariants : Prop :=
  (let s := State.reset
   s.unit.engine = .init ∧ s.unit.initPhase = .setupRead ∧ s.unit.resetLow = false ∧ s.unit.recovery = none ∧
    s.unit.lastStart = .cold ∧
    s.unit.setup = { own := 0, collector := 0, provisioning := 0, maintenance := 0, controllers := [0],
                     windows := [⟨0, 0⟩, ⟨0, 0⟩, ⟨0, 0⟩, ⟨0, 0⟩], ackSpan := 0, maxSends := 0, lifetime := 0, freshSpan := 0,
                     feeds := ⟨⟨.high, 0⟩, ⟨.high, 0⟩, ⟨.high, 0⟩⟩, holdMark := 0, highMark := 0, discardTime := 0,
                     neighbours := [] } ∧
    s.faults = ⟨⟨false, false, false, false, false⟩, none, none⟩ ∧ s.stats = [] ∧ s.pending = [] ∧ s.now = 0 ∧
    s.faultLine = false ∧
    s.span = { notices := [], onAir := none, frame := none, waitingGap := true, ackDriven := false } ∧
    s.intake = { table := [], runDue := false } ∧
    s.clock = { state := .search, current := none, misses := 0, candidate := none, held := none, latest := none,
                serial := 0 } ∧
    s.claims = { openWin := none, closedWin := none, fill := List.replicate 16 0, arbiter := ⟨⟨0, 0, 0⟩, none, none⟩,
                 blocked := [], slot := .idle, startTest := false } ∧
    s.tracker = { entries := [], reservations := [], deadlines := [] } ∧
    s.charge.set = false ∧ s.charge.loaded = 0 ∧ s.charge.marks = 0 ∧ s.charge.active = [] ∧ s.charge.staged = [] ∧
    s.queue.records = [] ∧ s.queue.nextNumber = 0 ∧ s.queue.send = none ∧ s.queue.stallFrom = none ∧
    s.queue.period = none ∧ s.queue.selector = .b0 ∧ s.queue.sweep = none ∧ s.subs = [] ∧ s.parity = [] ∧
    poolCount s.store.pool = 8192 ∧ poolFront s.store.pool = some 0 ∧ (∀ slot, s.msg slot = none) ∧
    (∀ key, s.dueList key = []) ∧ s.store.waitList = []) ∧
    SlotsConserved State.reset ∧ RecordsNumbered State.reset ∧ HighMarkBelowCap State.reset ∧
    ClockShape State.reset.clock ∧ NoticesBounded State.reset ∧ DelayedTableKeyed State.reset ∧
    State.reset.storeWf = true ∧ CountersBounded State.reset ∧ ClaimsNeedTracking State.reset

/-- Every step, from every state that meets it, keeps the law of the slots: message records and the free pool share the
8,192 slots, each slot in exactly one of them. -/
def Obligations.SlotsStayConserved : Prop :=
  ∀ s t : State, SlotsConserved s → step s = .next t → SlotsConserved t

/-- Every step keeps the charge record queue within 1,024 records with consecutive record numbers, given the bound of
the high mark, which it keeps too: no adder meets a full queue. -/
def Obligations.RecordsStayNumbered : Prop :=
  ∀ s t : State, RecordsNumbered s → HighMarkBelowCap s → step s = .next t → RecordsNumbered t ∧ HighMarkBelowCap t

/-- Every step keeps the fields of the Window Clock those of its state, its air times in range and its misses at most 3.
-/
def Obligations.ClockFieldsStayConsistent : Prop :=
  ∀ s t : State, ClockShape s.clock → step s = .next t → ClockShape t.clock

/-- Every step keeps it so that in SERVICE a composition or prepared claim stands only while the clock is TRACKING and a
window is OPEN, and leaves no test of R103 outstanding. -/
def Obligations.ClaimsStayWithTracking : Prop :=
  ∀ s t : State, ClaimsNeedTracking s → step s = .next t → ClaimsNeedTracking t

/-- Every step keeps the notice queue within 32 notices of at most two unanswered sendings, and the delayed deposit
table within 8 entries, at most one for an origin and tag. -/
def Obligations.NoticesAndDelayedTableStayBounded : Prop :=
  ∀ s t : State, step s = .next t →
    (NoticesBounded s → NoticesBounded t) ∧ (DelayedTableKeyed s → DelayedTableKeyed t)

/-- Every step keeps the store's tables in canonical form, the bytes of bad parity at addresses of the places they
belong to among them, and every counter at most 65,535. -/
def Obligations.TablesStayCanonical : Prop :=
  ∀ s t : State, s.storeWf = true → CountersBounded s → step s = .next t → t.storeWf = true ∧ CountersBounded t
end

