-- ==== Sys2Proof/Laws/State.lean ====
section
/-! SUPPORT. One lemma for each part of the state under each named update. -/

namespace Sys2Proof.Machine

/-! ### withPending -/

@[simp] theorem State.withPending_pending (s : State) (v : List Instr) : (s.withPending v).pending = v := rfl
@[simp] theorem State.withPending_now (s : State) (v : List Instr) : (s.withPending v).now = s.now := rfl
@[simp] theorem State.withPending_unit (s : State) (v : List Instr) : (s.withPending v).unit = s.unit := rfl
@[simp] theorem State.withPending_faults (s : State) (v : List Instr) : (s.withPending v).faults = s.faults := rfl
@[simp] theorem State.withPending_stats (s : State) (v : List Instr) : (s.withPending v).stats = s.stats := rfl
@[simp] theorem State.withPending_span (s : State) (v : List Instr) : (s.withPending v).span = s.span := rfl
@[simp] theorem State.withPending_subs (s : State) (v : List Instr) : (s.withPending v).subs = s.subs := rfl
@[simp] theorem State.withPending_intake (s : State) (v : List Instr) : (s.withPending v).intake = s.intake := rfl
@[simp] theorem State.withPending_store (s : State) (v : List Instr) : (s.withPending v).store = s.store := rfl
@[simp] theorem State.withPending_clock (s : State) (v : List Instr) : (s.withPending v).clock = s.clock := rfl
@[simp] theorem State.withPending_claims (s : State) (v : List Instr) : (s.withPending v).claims = s.claims := rfl
@[simp] theorem State.withPending_tracker (s : State) (v : List Instr) : (s.withPending v).tracker = s.tracker := rfl
@[simp] theorem State.withPending_charge (s : State) (v : List Instr) : (s.withPending v).charge = s.charge := rfl
@[simp] theorem State.withPending_queue (s : State) (v : List Instr) : (s.withPending v).queue = s.queue := rfl
@[simp] theorem State.withPending_parity (s : State) (v : List Instr) : (s.withPending v).parity = s.parity := rfl

/-! ### withNow -/

@[simp] theorem State.withNow_pending (s : State) (v : Nat) : (s.withNow v).pending = s.pending := rfl
@[simp] theorem State.withNow_now (s : State) (v : Nat) : (s.withNow v).now = v := rfl
@[simp] theorem State.withNow_unit (s : State) (v : Nat) : (s.withNow v).unit = s.unit := rfl
@[simp] theorem State.withNow_faults (s : State) (v : Nat) : (s.withNow v).faults = s.faults := rfl
@[simp] theorem State.withNow_stats (s : State) (v : Nat) : (s.withNow v).stats = s.stats := rfl
@[simp] theorem State.withNow_span (s : State) (v : Nat) : (s.withNow v).span = s.span := rfl
@[simp] theorem State.withNow_subs (s : State) (v : Nat) : (s.withNow v).subs = s.subs := rfl
@[simp] theorem State.withNow_intake (s : State) (v : Nat) : (s.withNow v).intake = s.intake := rfl
@[simp] theorem State.withNow_store (s : State) (v : Nat) : (s.withNow v).store = s.store := rfl
@[simp] theorem State.withNow_clock (s : State) (v : Nat) : (s.withNow v).clock = s.clock := rfl
@[simp] theorem State.withNow_claims (s : State) (v : Nat) : (s.withNow v).claims = s.claims := rfl
@[simp] theorem State.withNow_tracker (s : State) (v : Nat) : (s.withNow v).tracker = s.tracker := rfl
@[simp] theorem State.withNow_charge (s : State) (v : Nat) : (s.withNow v).charge = s.charge := rfl
@[simp] theorem State.withNow_queue (s : State) (v : Nat) : (s.withNow v).queue = s.queue := rfl
@[simp] theorem State.withNow_parity (s : State) (v : Nat) : (s.withNow v).parity = s.parity := rfl

/-! ### withUnit -/

@[simp] theorem State.withUnit_pending (s : State) (v : SetupUnit) : (s.withUnit v).pending = s.pending := rfl
@[simp] theorem State.withUnit_now (s : State) (v : SetupUnit) : (s.withUnit v).now = s.now := rfl
@[simp] theorem State.withUnit_unit (s : State) (v : SetupUnit) : (s.withUnit v).unit = v := rfl
@[simp] theorem State.withUnit_faults (s : State) (v : SetupUnit) : (s.withUnit v).faults = s.faults := rfl
@[simp] theorem State.withUnit_stats (s : State) (v : SetupUnit) : (s.withUnit v).stats = s.stats := rfl
@[simp] theorem State.withUnit_span (s : State) (v : SetupUnit) : (s.withUnit v).span = s.span := rfl
@[simp] theorem State.withUnit_subs (s : State) (v : SetupUnit) : (s.withUnit v).subs = s.subs := rfl
@[simp] theorem State.withUnit_intake (s : State) (v : SetupUnit) : (s.withUnit v).intake = s.intake := rfl
@[simp] theorem State.withUnit_store (s : State) (v : SetupUnit) : (s.withUnit v).store = s.store := rfl
@[simp] theorem State.withUnit_clock (s : State) (v : SetupUnit) : (s.withUnit v).clock = s.clock := rfl
@[simp] theorem State.withUnit_claims (s : State) (v : SetupUnit) : (s.withUnit v).claims = s.claims := rfl
@[simp] theorem State.withUnit_tracker (s : State) (v : SetupUnit) : (s.withUnit v).tracker = s.tracker := rfl
@[simp] theorem State.withUnit_charge (s : State) (v : SetupUnit) : (s.withUnit v).charge = s.charge := rfl
@[simp] theorem State.withUnit_queue (s : State) (v : SetupUnit) : (s.withUnit v).queue = s.queue := rfl
@[simp] theorem State.withUnit_parity (s : State) (v : SetupUnit) : (s.withUnit v).parity = s.parity := rfl

/-! ### withFaults -/

@[simp] theorem State.withFaults_pending (s : State) (v : Faults) : (s.withFaults v).pending = s.pending := rfl
@[simp] theorem State.withFaults_now (s : State) (v : Faults) : (s.withFaults v).now = s.now := rfl
@[simp] theorem State.withFaults_unit (s : State) (v : Faults) : (s.withFaults v).unit = s.unit := rfl
@[simp] theorem State.withFaults_faults (s : State) (v : Faults) : (s.withFaults v).faults = v := rfl
@[simp] theorem State.withFaults_stats (s : State) (v : Faults) : (s.withFaults v).stats = s.stats := rfl
@[simp] theorem State.withFaults_span (s : State) (v : Faults) : (s.withFaults v).span = s.span := rfl
@[simp] theorem State.withFaults_subs (s : State) (v : Faults) : (s.withFaults v).subs = s.subs := rfl
@[simp] theorem State.withFaults_intake (s : State) (v : Faults) : (s.withFaults v).intake = s.intake := rfl
@[simp] theorem State.withFaults_store (s : State) (v : Faults) : (s.withFaults v).store = s.store := rfl
@[simp] theorem State.withFaults_clock (s : State) (v : Faults) : (s.withFaults v).clock = s.clock := rfl
@[simp] theorem State.withFaults_claims (s : State) (v : Faults) : (s.withFaults v).claims = s.claims := rfl
@[simp] theorem State.withFaults_tracker (s : State) (v : Faults) : (s.withFaults v).tracker = s.tracker := rfl
@[simp] theorem State.withFaults_charge (s : State) (v : Faults) : (s.withFaults v).charge = s.charge := rfl
@[simp] theorem State.withFaults_queue (s : State) (v : Faults) : (s.withFaults v).queue = s.queue := rfl
@[simp] theorem State.withFaults_parity (s : State) (v : Faults) : (s.withFaults v).parity = s.parity := rfl

/-! ### withStats -/

@[simp] theorem State.withStats_pending (s : State) (v : Table Nat) : (s.withStats v).pending = s.pending := rfl
@[simp] theorem State.withStats_now (s : State) (v : Table Nat) : (s.withStats v).now = s.now := rfl
@[simp] theorem State.withStats_unit (s : State) (v : Table Nat) : (s.withStats v).unit = s.unit := rfl
@[simp] theorem State.withStats_faults (s : State) (v : Table Nat) : (s.withStats v).faults = s.faults := rfl
@[simp] theorem State.withStats_stats (s : State) (v : Table Nat) : (s.withStats v).stats = v := rfl
@[simp] theorem State.withStats_span (s : State) (v : Table Nat) : (s.withStats v).span = s.span := rfl
@[simp] theorem State.withStats_subs (s : State) (v : Table Nat) : (s.withStats v).subs = s.subs := rfl
@[simp] theorem State.withStats_intake (s : State) (v : Table Nat) : (s.withStats v).intake = s.intake := rfl
@[simp] theorem State.withStats_store (s : State) (v : Table Nat) : (s.withStats v).store = s.store := rfl
@[simp] theorem State.withStats_clock (s : State) (v : Table Nat) : (s.withStats v).clock = s.clock := rfl
@[simp] theorem State.withStats_claims (s : State) (v : Table Nat) : (s.withStats v).claims = s.claims := rfl
@[simp] theorem State.withStats_tracker (s : State) (v : Table Nat) : (s.withStats v).tracker = s.tracker := rfl
@[simp] theorem State.withStats_charge (s : State) (v : Table Nat) : (s.withStats v).charge = s.charge := rfl
@[simp] theorem State.withStats_queue (s : State) (v : Table Nat) : (s.withStats v).queue = s.queue := rfl
@[simp] theorem State.withStats_parity (s : State) (v : Table Nat) : (s.withStats v).parity = s.parity := rfl

/-! ### withSpan -/

@[simp] theorem State.withSpan_pending (s : State) (v : SpanPort) : (s.withSpan v).pending = s.pending := rfl
@[simp] theorem State.withSpan_now (s : State) (v : SpanPort) : (s.withSpan v).now = s.now := rfl
@[simp] theorem State.withSpan_unit (s : State) (v : SpanPort) : (s.withSpan v).unit = s.unit := rfl
@[simp] theorem State.withSpan_faults (s : State) (v : SpanPort) : (s.withSpan v).faults = s.faults := rfl
@[simp] theorem State.withSpan_stats (s : State) (v : SpanPort) : (s.withSpan v).stats = s.stats := rfl
@[simp] theorem State.withSpan_span (s : State) (v : SpanPort) : (s.withSpan v).span = v := rfl
@[simp] theorem State.withSpan_subs (s : State) (v : SpanPort) : (s.withSpan v).subs = s.subs := rfl
@[simp] theorem State.withSpan_intake (s : State) (v : SpanPort) : (s.withSpan v).intake = s.intake := rfl
@[simp] theorem State.withSpan_store (s : State) (v : SpanPort) : (s.withSpan v).store = s.store := rfl
@[simp] theorem State.withSpan_clock (s : State) (v : SpanPort) : (s.withSpan v).clock = s.clock := rfl
@[simp] theorem State.withSpan_claims (s : State) (v : SpanPort) : (s.withSpan v).claims = s.claims := rfl
@[simp] theorem State.withSpan_tracker (s : State) (v : SpanPort) : (s.withSpan v).tracker = s.tracker := rfl
@[simp] theorem State.withSpan_charge (s : State) (v : SpanPort) : (s.withSpan v).charge = s.charge := rfl
@[simp] theorem State.withSpan_queue (s : State) (v : SpanPort) : (s.withSpan v).queue = s.queue := rfl
@[simp] theorem State.withSpan_parity (s : State) (v : SpanPort) : (s.withSpan v).parity = s.parity := rfl

/-! ### withSubs -/

@[simp] theorem State.withSubs_pending (s : State) (v : Table Subscriber) : (s.withSubs v).pending = s.pending := rfl
@[simp] theorem State.withSubs_now (s : State) (v : Table Subscriber) : (s.withSubs v).now = s.now := rfl
@[simp] theorem State.withSubs_unit (s : State) (v : Table Subscriber) : (s.withSubs v).unit = s.unit := rfl
@[simp] theorem State.withSubs_faults (s : State) (v : Table Subscriber) : (s.withSubs v).faults = s.faults := rfl
@[simp] theorem State.withSubs_stats (s : State) (v : Table Subscriber) : (s.withSubs v).stats = s.stats := rfl
@[simp] theorem State.withSubs_span (s : State) (v : Table Subscriber) : (s.withSubs v).span = s.span := rfl
@[simp] theorem State.withSubs_subs (s : State) (v : Table Subscriber) : (s.withSubs v).subs = v := rfl
@[simp] theorem State.withSubs_intake (s : State) (v : Table Subscriber) : (s.withSubs v).intake = s.intake := rfl
@[simp] theorem State.withSubs_store (s : State) (v : Table Subscriber) : (s.withSubs v).store = s.store := rfl
@[simp] theorem State.withSubs_clock (s : State) (v : Table Subscriber) : (s.withSubs v).clock = s.clock := rfl
@[simp] theorem State.withSubs_claims (s : State) (v : Table Subscriber) : (s.withSubs v).claims = s.claims := rfl
@[simp] theorem State.withSubs_tracker (s : State) (v : Table Subscriber) : (s.withSubs v).tracker = s.tracker := rfl
@[simp] theorem State.withSubs_charge (s : State) (v : Table Subscriber) : (s.withSubs v).charge = s.charge := rfl
@[simp] theorem State.withSubs_queue (s : State) (v : Table Subscriber) : (s.withSubs v).queue = s.queue := rfl
@[simp] theorem State.withSubs_parity (s : State) (v : Table Subscriber) : (s.withSubs v).parity = s.parity := rfl

/-! ### withIntake -/

@[simp] theorem State.withIntake_pending (s : State) (v : Intake) : (s.withIntake v).pending = s.pending := rfl
@[simp] theorem State.withIntake_now (s : State) (v : Intake) : (s.withIntake v).now = s.now := rfl
@[simp] theorem State.withIntake_unit (s : State) (v : Intake) : (s.withIntake v).unit = s.unit := rfl
@[simp] theorem State.withIntake_faults (s : State) (v : Intake) : (s.withIntake v).faults = s.faults := rfl
@[simp] theorem State.withIntake_stats (s : State) (v : Intake) : (s.withIntake v).stats = s.stats := rfl
@[simp] theorem State.withIntake_span (s : State) (v : Intake) : (s.withIntake v).span = s.span := rfl
@[simp] theorem State.withIntake_subs (s : State) (v : Intake) : (s.withIntake v).subs = s.subs := rfl
@[simp] theorem State.withIntake_intake (s : State) (v : Intake) : (s.withIntake v).intake = v := rfl
@[simp] theorem State.withIntake_store (s : State) (v : Intake) : (s.withIntake v).store = s.store := rfl
@[simp] theorem State.withIntake_clock (s : State) (v : Intake) : (s.withIntake v).clock = s.clock := rfl
@[simp] theorem State.withIntake_claims (s : State) (v : Intake) : (s.withIntake v).claims = s.claims := rfl
@[simp] theorem State.withIntake_tracker (s : State) (v : Intake) : (s.withIntake v).tracker = s.tracker := rfl
@[simp] theorem State.withIntake_charge (s : State) (v : Intake) : (s.withIntake v).charge = s.charge := rfl
@[simp] theorem State.withIntake_queue (s : State) (v : Intake) : (s.withIntake v).queue = s.queue := rfl
@[simp] theorem State.withIntake_parity (s : State) (v : Intake) : (s.withIntake v).parity = s.parity := rfl

/-! ### withStore -/

@[simp] theorem State.withStore_pending (s : State) (v : MsgStore) : (s.withStore v).pending = s.pending := rfl
@[simp] theorem State.withStore_now (s : State) (v : MsgStore) : (s.withStore v).now = s.now := rfl
@[simp] theorem State.withStore_unit (s : State) (v : MsgStore) : (s.withStore v).unit = s.unit := rfl
@[simp] theorem State.withStore_faults (s : State) (v : MsgStore) : (s.withStore v).faults = s.faults := rfl
@[simp] theorem State.withStore_stats (s : State) (v : MsgStore) : (s.withStore v).stats = s.stats := rfl
@[simp] theorem State.withStore_span (s : State) (v : MsgStore) : (s.withStore v).span = s.span := rfl
@[simp] theorem State.withStore_subs (s : State) (v : MsgStore) : (s.withStore v).subs = s.subs := rfl
@[simp] theorem State.withStore_intake (s : State) (v : MsgStore) : (s.withStore v).intake = s.intake := rfl
@[simp] theorem State.withStore_store (s : State) (v : MsgStore) : (s.withStore v).store = v := rfl
@[simp] theorem State.withStore_clock (s : State) (v : MsgStore) : (s.withStore v).clock = s.clock := rfl
@[simp] theorem State.withStore_claims (s : State) (v : MsgStore) : (s.withStore v).claims = s.claims := rfl
@[simp] theorem State.withStore_tracker (s : State) (v : MsgStore) : (s.withStore v).tracker = s.tracker := rfl
@[simp] theorem State.withStore_charge (s : State) (v : MsgStore) : (s.withStore v).charge = s.charge := rfl
@[simp] theorem State.withStore_queue (s : State) (v : MsgStore) : (s.withStore v).queue = s.queue := rfl
@[simp] theorem State.withStore_parity (s : State) (v : MsgStore) : (s.withStore v).parity = s.parity := rfl

/-! ### withClock -/

@[simp] theorem State.withClock_pending (s : State) (v : Clock) : (s.withClock v).pending = s.pending := rfl
@[simp] theorem State.withClock_now (s : State) (v : Clock) : (s.withClock v).now = s.now := rfl
@[simp] theorem State.withClock_unit (s : State) (v : Clock) : (s.withClock v).unit = s.unit := rfl
@[simp] theorem State.withClock_faults (s : State) (v : Clock) : (s.withClock v).faults = s.faults := rfl
@[simp] theorem State.withClock_stats (s : State) (v : Clock) : (s.withClock v).stats = s.stats := rfl
@[simp] theorem State.withClock_span (s : State) (v : Clock) : (s.withClock v).span = s.span := rfl
@[simp] theorem State.withClock_subs (s : State) (v : Clock) : (s.withClock v).subs = s.subs := rfl
@[simp] theorem State.withClock_intake (s : State) (v : Clock) : (s.withClock v).intake = s.intake := rfl
@[simp] theorem State.withClock_store (s : State) (v : Clock) : (s.withClock v).store = s.store := rfl
@[simp] theorem State.withClock_clock (s : State) (v : Clock) : (s.withClock v).clock = v := rfl
@[simp] theorem State.withClock_claims (s : State) (v : Clock) : (s.withClock v).claims = s.claims := rfl
@[simp] theorem State.withClock_tracker (s : State) (v : Clock) : (s.withClock v).tracker = s.tracker := rfl
@[simp] theorem State.withClock_charge (s : State) (v : Clock) : (s.withClock v).charge = s.charge := rfl
@[simp] theorem State.withClock_queue (s : State) (v : Clock) : (s.withClock v).queue = s.queue := rfl
@[simp] theorem State.withClock_parity (s : State) (v : Clock) : (s.withClock v).parity = s.parity := rfl

/-! ### withClaims -/

@[simp] theorem State.withClaims_pending (s : State) (v : ClaimBuilder) : (s.withClaims v).pending = s.pending := rfl
@[simp] theorem State.withClaims_now (s : State) (v : ClaimBuilder) : (s.withClaims v).now = s.now := rfl
@[simp] theorem State.withClaims_unit (s : State) (v : ClaimBuilder) : (s.withClaims v).unit = s.unit := rfl
@[simp] theorem State.withClaims_faults (s : State) (v : ClaimBuilder) : (s.withClaims v).faults = s.faults := rfl
@[simp] theorem State.withClaims_stats (s : State) (v : ClaimBuilder) : (s.withClaims v).stats = s.stats := rfl
@[simp] theorem State.withClaims_span (s : State) (v : ClaimBuilder) : (s.withClaims v).span = s.span := rfl
@[simp] theorem State.withClaims_subs (s : State) (v : ClaimBuilder) : (s.withClaims v).subs = s.subs := rfl
@[simp] theorem State.withClaims_intake (s : State) (v : ClaimBuilder) : (s.withClaims v).intake = s.intake := rfl
@[simp] theorem State.withClaims_store (s : State) (v : ClaimBuilder) : (s.withClaims v).store = s.store := rfl
@[simp] theorem State.withClaims_clock (s : State) (v : ClaimBuilder) : (s.withClaims v).clock = s.clock := rfl
@[simp] theorem State.withClaims_claims (s : State) (v : ClaimBuilder) : (s.withClaims v).claims = v := rfl
@[simp] theorem State.withClaims_tracker (s : State) (v : ClaimBuilder) : (s.withClaims v).tracker = s.tracker := rfl
@[simp] theorem State.withClaims_charge (s : State) (v : ClaimBuilder) : (s.withClaims v).charge = s.charge := rfl
@[simp] theorem State.withClaims_queue (s : State) (v : ClaimBuilder) : (s.withClaims v).queue = s.queue := rfl
@[simp] theorem State.withClaims_parity (s : State) (v : ClaimBuilder) : (s.withClaims v).parity = s.parity := rfl

/-! ### withTracker -/

@[simp] theorem State.withTracker_pending (s : State) (v : Tracker) : (s.withTracker v).pending = s.pending := rfl
@[simp] theorem State.withTracker_now (s : State) (v : Tracker) : (s.withTracker v).now = s.now := rfl
@[simp] theorem State.withTracker_unit (s : State) (v : Tracker) : (s.withTracker v).unit = s.unit := rfl
@[simp] theorem State.withTracker_faults (s : State) (v : Tracker) : (s.withTracker v).faults = s.faults := rfl
@[simp] theorem State.withTracker_stats (s : State) (v : Tracker) : (s.withTracker v).stats = s.stats := rfl
@[simp] theorem State.withTracker_span (s : State) (v : Tracker) : (s.withTracker v).span = s.span := rfl
@[simp] theorem State.withTracker_subs (s : State) (v : Tracker) : (s.withTracker v).subs = s.subs := rfl
@[simp] theorem State.withTracker_intake (s : State) (v : Tracker) : (s.withTracker v).intake = s.intake := rfl
@[simp] theorem State.withTracker_store (s : State) (v : Tracker) : (s.withTracker v).store = s.store := rfl
@[simp] theorem State.withTracker_clock (s : State) (v : Tracker) : (s.withTracker v).clock = s.clock := rfl
@[simp] theorem State.withTracker_claims (s : State) (v : Tracker) : (s.withTracker v).claims = s.claims := rfl
@[simp] theorem State.withTracker_tracker (s : State) (v : Tracker) : (s.withTracker v).tracker = v := rfl
@[simp] theorem State.withTracker_charge (s : State) (v : Tracker) : (s.withTracker v).charge = s.charge := rfl
@[simp] theorem State.withTracker_queue (s : State) (v : Tracker) : (s.withTracker v).queue = s.queue := rfl
@[simp] theorem State.withTracker_parity (s : State) (v : Tracker) : (s.withTracker v).parity = s.parity := rfl

/-! ### withCharge -/

@[simp] theorem State.withCharge_pending (s : State) (v : Tariffs) : (s.withCharge v).pending = s.pending := rfl
@[simp] theorem State.withCharge_now (s : State) (v : Tariffs) : (s.withCharge v).now = s.now := rfl
@[simp] theorem State.withCharge_unit (s : State) (v : Tariffs) : (s.withCharge v).unit = s.unit := rfl
@[simp] theorem State.withCharge_faults (s : State) (v : Tariffs) : (s.withCharge v).faults = s.faults := rfl
@[simp] theorem State.withCharge_stats (s : State) (v : Tariffs) : (s.withCharge v).stats = s.stats := rfl
@[simp] theorem State.withCharge_span (s : State) (v : Tariffs) : (s.withCharge v).span = s.span := rfl
@[simp] theorem State.withCharge_subs (s : State) (v : Tariffs) : (s.withCharge v).subs = s.subs := rfl
@[simp] theorem State.withCharge_intake (s : State) (v : Tariffs) : (s.withCharge v).intake = s.intake := rfl
@[simp] theorem State.withCharge_store (s : State) (v : Tariffs) : (s.withCharge v).store = s.store := rfl
@[simp] theorem State.withCharge_clock (s : State) (v : Tariffs) : (s.withCharge v).clock = s.clock := rfl
@[simp] theorem State.withCharge_claims (s : State) (v : Tariffs) : (s.withCharge v).claims = s.claims := rfl
@[simp] theorem State.withCharge_tracker (s : State) (v : Tariffs) : (s.withCharge v).tracker = s.tracker := rfl
@[simp] theorem State.withCharge_charge (s : State) (v : Tariffs) : (s.withCharge v).charge = v := rfl
@[simp] theorem State.withCharge_queue (s : State) (v : Tariffs) : (s.withCharge v).queue = s.queue := rfl
@[simp] theorem State.withCharge_parity (s : State) (v : Tariffs) : (s.withCharge v).parity = s.parity := rfl

/-! ### withQueue -/

@[simp] theorem State.withQueue_pending (s : State) (v : RecordQueue) : (s.withQueue v).pending = s.pending := rfl
@[simp] theorem State.withQueue_now (s : State) (v : RecordQueue) : (s.withQueue v).now = s.now := rfl
@[simp] theorem State.withQueue_unit (s : State) (v : RecordQueue) : (s.withQueue v).unit = s.unit := rfl
@[simp] theorem State.withQueue_faults (s : State) (v : RecordQueue) : (s.withQueue v).faults = s.faults := rfl
@[simp] theorem State.withQueue_stats (s : State) (v : RecordQueue) : (s.withQueue v).stats = s.stats := rfl
@[simp] theorem State.withQueue_span (s : State) (v : RecordQueue) : (s.withQueue v).span = s.span := rfl
@[simp] theorem State.withQueue_subs (s : State) (v : RecordQueue) : (s.withQueue v).subs = s.subs := rfl
@[simp] theorem State.withQueue_intake (s : State) (v : RecordQueue) : (s.withQueue v).intake = s.intake := rfl
@[simp] theorem State.withQueue_store (s : State) (v : RecordQueue) : (s.withQueue v).store = s.store := rfl
@[simp] theorem State.withQueue_clock (s : State) (v : RecordQueue) : (s.withQueue v).clock = s.clock := rfl
@[simp] theorem State.withQueue_claims (s : State) (v : RecordQueue) : (s.withQueue v).claims = s.claims := rfl
@[simp] theorem State.withQueue_tracker (s : State) (v : RecordQueue) : (s.withQueue v).tracker = s.tracker := rfl
@[simp] theorem State.withQueue_charge (s : State) (v : RecordQueue) : (s.withQueue v).charge = s.charge := rfl
@[simp] theorem State.withQueue_queue (s : State) (v : RecordQueue) : (s.withQueue v).queue = v := rfl
@[simp] theorem State.withQueue_parity (s : State) (v : RecordQueue) : (s.withQueue v).parity = s.parity := rfl

/-! ### withParity -/

@[simp] theorem State.withParity_pending (s : State) (v : Table StorePlace) : (s.withParity v).pending = s.pending := rfl
@[simp] theorem State.withParity_now (s : State) (v : Table StorePlace) : (s.withParity v).now = s.now := rfl
@[simp] theorem State.withParity_unit (s : State) (v : Table StorePlace) : (s.withParity v).unit = s.unit := rfl
@[simp] theorem State.withParity_faults (s : State) (v : Table StorePlace) : (s.withParity v).faults = s.faults := rfl
@[simp] theorem State.withParity_stats (s : State) (v : Table StorePlace) : (s.withParity v).stats = s.stats := rfl
@[simp] theorem State.withParity_span (s : State) (v : Table StorePlace) : (s.withParity v).span = s.span := rfl
@[simp] theorem State.withParity_subs (s : State) (v : Table StorePlace) : (s.withParity v).subs = s.subs := rfl
@[simp] theorem State.withParity_intake (s : State) (v : Table StorePlace) : (s.withParity v).intake = s.intake := rfl
@[simp] theorem State.withParity_store (s : State) (v : Table StorePlace) : (s.withParity v).store = s.store := rfl
@[simp] theorem State.withParity_clock (s : State) (v : Table StorePlace) : (s.withParity v).clock = s.clock := rfl
@[simp] theorem State.withParity_claims (s : State) (v : Table StorePlace) : (s.withParity v).claims = s.claims := rfl
@[simp] theorem State.withParity_tracker (s : State) (v : Table StorePlace) : (s.withParity v).tracker = s.tracker := rfl
@[simp] theorem State.withParity_charge (s : State) (v : Table StorePlace) : (s.withParity v).charge = s.charge := rfl
@[simp] theorem State.withParity_queue (s : State) (v : Table StorePlace) : (s.withParity v).queue = s.queue := rfl
@[simp] theorem State.withParity_parity (s : State) (v : Table StorePlace) : (s.withParity v).parity = v := rfl

end Sys2Proof.Machine
end

