-- ==== Sys2Proof/Laws/Kept.lean ====
section
/-! SUPPORT. What each shared operation keeps: for each, the parts of the state it can change, said once. -/

namespace Sys2Proof.Machine

theorem KeptBut.refl (ps : List Part) (s : State) : KeptBut ps s s := by intro p _; cases p <;> rfl

theorem KeptBut.trans {ps : List Part} {s t u : State} (h : KeptBut ps s t) (k : KeptBut ps t u) : KeptBut ps s u := by
  intro p hp; have h1 := h p hp; have h2 := k p hp
  cases p <;> exact Eq.trans h2 h1

theorem KeptBut.symm {ps : List Part} {s t : State} (h : KeptBut ps s t) : KeptBut ps t s := by
  intro p hp; have h1 := h p hp
  cases p <;> exact Eq.symm h1

theorem KeptBut.mono {ps qs : List Part} {s t : State} (h : KeptBut ps s t) (sub : ps ⊆ qs) : KeptBut qs s t :=
  fun p hp => h p (fun hm => hp (sub hm))

@[simp] theorem keptBut_self (ps : List Part) (s : State) : KeptBut ps s s := KeptBut.refl ps s

theorem keptBut_iff {ps qs : List Part} {s t u : State} (h : KeptBut qs t u) (sub : qs ⊆ ps) :
    KeptBut ps s u ↔ KeptBut ps s t :=
  ⟨fun k => k.trans (h.mono sub).symm, fun k => k.trans (h.mono sub)⟩

@[simp] theorem keptBut_ite {ps : List Part} {s a b : State} {c : Prop} [Decidable c] :
    KeptBut ps s (if c then a else b) ↔ (c → KeptBut ps s a) ∧ (¬ c → KeptBut ps s b) := by
  split <;> simp_all

theorem keptBut_foldl {α : Type} {ps : List Part} {f : State → α → State}
    (hf : ∀ t x, KeptBut ps t (f t x)) (l : List α) (s t : State) :
    KeptBut ps s (l.foldl f t) ↔ KeptBut ps s t := by
  induction l generalizing t with
  | nil => rfl
  | cons x l ih => rw [List.foldl_cons, ih]; exact keptBut_iff (hf t x) (fun _ h => h)

@[simp] theorem keptBut_withPending {ps : List Part} {s t : State} (v : List Instr) (hsub : [.pending] ⊆ ps) :
    KeptBut ps s (t.withPending v) ↔ KeptBut ps s t := by
  refine keptBut_iff ?_ hsub; clear hsub
  intro p hp; cases p <;> first | rfl | exact absurd (by simp) hp

@[simp] theorem keptBut_withNow {ps : List Part} {s t : State} (v : Nat) (hsub : [.now] ⊆ ps) :
    KeptBut ps s (t.withNow v) ↔ KeptBut ps s t := by
  refine keptBut_iff ?_ hsub; clear hsub
  intro p hp; cases p <;> first | rfl | exact absurd (by simp) hp

@[simp] theorem keptBut_withUnit {ps : List Part} {s t : State} (v : SetupUnit) (hsub : [.unit] ⊆ ps) :
    KeptBut ps s (t.withUnit v) ↔ KeptBut ps s t := by
  refine keptBut_iff ?_ hsub; clear hsub
  intro p hp; cases p <;> first | rfl | exact absurd (by simp) hp

@[simp] theorem keptBut_withFaults {ps : List Part} {s t : State} (v : Faults) (hsub : [.faults] ⊆ ps) :
    KeptBut ps s (t.withFaults v) ↔ KeptBut ps s t := by
  refine keptBut_iff ?_ hsub; clear hsub
  intro p hp; cases p <;> first | rfl | exact absurd (by simp) hp

@[simp] theorem keptBut_withStats {ps : List Part} {s t : State} (v : Table Nat) (hsub : [.stats] ⊆ ps) :
    KeptBut ps s (t.withStats v) ↔ KeptBut ps s t := by
  refine keptBut_iff ?_ hsub; clear hsub
  intro p hp; cases p <;> first | rfl | exact absurd (by simp) hp

@[simp] theorem keptBut_withSpan {ps : List Part} {s t : State} (v : SpanPort) (hsub : [.span] ⊆ ps) :
    KeptBut ps s (t.withSpan v) ↔ KeptBut ps s t := by
  refine keptBut_iff ?_ hsub; clear hsub
  intro p hp; cases p <;> first | rfl | exact absurd (by simp) hp

@[simp] theorem keptBut_withSubs {ps : List Part} {s t : State} (v : Table Subscriber) (hsub : [.subs] ⊆ ps) :
    KeptBut ps s (t.withSubs v) ↔ KeptBut ps s t := by
  refine keptBut_iff ?_ hsub; clear hsub
  intro p hp; cases p <;> first | rfl | exact absurd (by simp) hp

@[simp] theorem keptBut_withIntake {ps : List Part} {s t : State} (v : Intake) (hsub : [.intake] ⊆ ps) :
    KeptBut ps s (t.withIntake v) ↔ KeptBut ps s t := by
  refine keptBut_iff ?_ hsub; clear hsub
  intro p hp; cases p <;> first | rfl | exact absurd (by simp) hp

@[simp] theorem keptBut_withStore {ps : List Part} {s t : State} (v : MsgStore) (hsub : [.store] ⊆ ps) :
    KeptBut ps s (t.withStore v) ↔ KeptBut ps s t := by
  refine keptBut_iff ?_ hsub; clear hsub
  intro p hp; cases p <;> first | rfl | exact absurd (by simp) hp

@[simp] theorem keptBut_withClock {ps : List Part} {s t : State} (v : Clock) (hsub : [.clock] ⊆ ps) :
    KeptBut ps s (t.withClock v) ↔ KeptBut ps s t := by
  refine keptBut_iff ?_ hsub; clear hsub
  intro p hp; cases p <;> first | rfl | exact absurd (by simp) hp

@[simp] theorem keptBut_withClaims {ps : List Part} {s t : State} (v : ClaimBuilder) (hsub : [.claims] ⊆ ps) :
    KeptBut ps s (t.withClaims v) ↔ KeptBut ps s t := by
  refine keptBut_iff ?_ hsub; clear hsub
  intro p hp; cases p <;> first | rfl | exact absurd (by simp) hp

@[simp] theorem keptBut_withTracker {ps : List Part} {s t : State} (v : Tracker) (hsub : [.tracker] ⊆ ps) :
    KeptBut ps s (t.withTracker v) ↔ KeptBut ps s t := by
  refine keptBut_iff ?_ hsub; clear hsub
  intro p hp; cases p <;> first | rfl | exact absurd (by simp) hp

@[simp] theorem keptBut_withCharge {ps : List Part} {s t : State} (v : Tariffs) (hsub : [.charge] ⊆ ps) :
    KeptBut ps s (t.withCharge v) ↔ KeptBut ps s t := by
  refine keptBut_iff ?_ hsub; clear hsub
  intro p hp; cases p <;> first | rfl | exact absurd (by simp) hp

@[simp] theorem keptBut_withQueue {ps : List Part} {s t : State} (v : RecordQueue) (hsub : [.queue] ⊆ ps) :
    KeptBut ps s (t.withQueue v) ↔ KeptBut ps s t := by
  refine keptBut_iff ?_ hsub; clear hsub
  intro p hp; cases p <;> first | rfl | exact absurd (by simp) hp

@[simp] theorem keptBut_withParity {ps : List Part} {s t : State} (v : Table StorePlace) (hsub : [.parity] ⊆ ps) :
    KeptBut ps s (t.withParity v) ↔ KeptBut ps s t := by
  refine keptBut_iff ?_ hsub; clear hsub
  intro p hp; cases p <;> first | rfl | exact absurd (by simp) hp

@[simp] theorem keptBut_advance {ps : List Part} {s t : State} (m : Nat) (hsub : [.now] ⊆ ps) :
    KeptBut ps s (t.advance m) ↔ KeptBut ps s t := by
  refine keptBut_iff ?_ hsub; clear hsub
  unfold State.advance; simp

@[simp] theorem keptBut_bump {ps : List Part} {s t : State} (c : Stat) (hsub : [.stats] ⊆ ps) :
    KeptBut ps s (t.bump c) ↔ KeptBut ps s t := by
  refine keptBut_iff ?_ hsub; clear hsub
  unfold State.bump; simp

@[simp] theorem keptBut_latch {ps : List Part} {s t : State} (c : Cause) (hsub : [.faults, .stats] ⊆ ps) :
    KeptBut ps s (t.latch c) ↔ KeptBut ps s t := by
  refine keptBut_iff ?_ hsub; clear hsub
  unfold State.latch; simp

@[simp] theorem keptBut_parityError {ps : List Part} {s t : State} (x : Nat) (hsub : [.faults, .stats] ⊆ ps) :
    KeptBut ps s (t.parityError x) ↔ KeptBut ps s t := by
  refine keptBut_iff ?_ hsub; clear hsub
  unfold State.parityError; (try dsimp only); repeat' split
  all_goals simp

@[simp] theorem keptBut_noteParity {ps : List Part} {s t : State} (l : List Nat) (hsub : [.faults, .stats] ⊆ ps) :
    KeptBut ps s (t.noteParity l) ↔ KeptBut ps s t := by
  refine keptBut_iff ?_ hsub; clear hsub
  unfold State.noteParity; rw [keptBut_foldl]
  · simp
  · intro t x; simp

@[simp] theorem keptBut_noteReads {ps : List Part} {s t : State} (l : List StorePlace) (hsub : [.faults, .stats] ⊆ ps) :
    KeptBut ps s (t.noteReads l) ↔ KeptBut ps s t := by
  refine keptBut_iff ?_ hsub; clear hsub
  unfold State.noteReads; simp

@[simp] theorem keptBut_rewrite {ps : List Part} {s t : State} (l : List StorePlace) (hsub : [.faults, .stats, .parity] ⊆ ps) :
    KeptBut ps s (t.rewrite l) ↔ KeptBut ps s t := by
  refine keptBut_iff ?_ hsub; clear hsub
  unfold State.rewrite; simp

@[simp] theorem keptBut_relink {ps : List Part} {s t : State} (l : List (Option Nat)) (hsub : [.faults, .stats, .parity] ⊆ ps) :
    KeptBut ps s (t.relink l) ↔ KeptBut ps s t := by
  refine keptBut_iff ?_ hsub; clear hsub
  unfold State.relink; simp

@[simp] theorem keptBut_raiseClock {ps : List Part} {s t : State} (c : Clock) (hsub : [.clock, .faults, .stats, .parity] ⊆ ps) :
    KeptBut ps s (t.raiseClock c) ↔ KeptBut ps s t := by
  refine keptBut_iff ?_ hsub; clear hsub
  unfold State.raiseClock; simp

@[simp] theorem keptBut_putSub {ps : List Part} {s t : State} (i : Nat) (r : Subscriber) (hsub : [.subs, .faults, .stats, .parity] ⊆ ps) :
    KeptBut ps s (t.putSub i r) ↔ KeptBut ps s t := by
  refine keptBut_iff ?_ hsub; clear hsub
  unfold State.putSub; simp

@[simp] theorem keptBut_putMsg {ps : List Part} {s t : State} (i : Nat) (m : Msg) (hsub : [.store, .faults, .stats, .parity] ⊆ ps) :
    KeptBut ps s (t.putMsg i m) ↔ KeptBut ps s t := by
  refine keptBut_iff ?_ hsub; clear hsub
  unfold State.putMsg; simp

@[simp] theorem keptBut_addNotice {ps : List Part} {s t : State} (d : Nat) (b : NoticeBody) (hsub : [.span, .stats] ⊆ ps) :
    KeptBut ps s (t.addNotice d b) ↔ KeptBut ps s t := by
  refine keptBut_iff ?_ hsub; clear hsub
  unfold State.addNotice; (try dsimp only); repeat' split
  all_goals simp

@[simp] theorem keptBut_enqueue {ps : List Part} {s t : State} (b : RecordBody) (hsub : [.queue, .faults, .stats, .parity] ⊆ ps) :
    KeptBut ps s (t.enqueue b) ↔ KeptBut ps s t := by
  refine keptBut_iff ?_ hsub; clear hsub
  unfold State.enqueue; (try dsimp only); repeat' split
  all_goals simp

@[simp] theorem keptBut_wake {ps : List Part} {s t : State} (hsub : [.claims] ⊆ ps) :
    KeptBut ps s (t.wake) ↔ KeptBut ps s t := by
  refine keptBut_iff ?_ hsub; clear hsub
  unfold State.wake; (try dsimp only); repeat' split
  all_goals simp

@[simp] theorem keptBut_wakeAt {ps : List Part} {s t : State} (w : Nat) (hsub : [.claims] ⊆ ps) :
    KeptBut ps s (t.wakeAt w) ↔ KeptBut ps s t := by
  refine keptBut_iff ?_ hsub; clear hsub
  unfold State.wakeAt; repeat' split
  all_goals simp

@[simp] theorem keptBut_putDue {ps : List Part} {s t : State} (k : Nat) (l : List Nat) (hsub : [.store, .faults, .stats, .parity] ⊆ ps) :
    KeptBut ps s (t.putDue k l) ↔ KeptBut ps s t := by
  refine keptBut_iff ?_ hsub; clear hsub
  unfold State.putDue; simp

@[simp] theorem keptBut_putCursor {ps : List Part} {s t : State} (f : Feed) (c : Option Nat) (hsub : [.store] ⊆ ps) :
    KeptBut ps s (t.putCursor f c) ↔ KeptBut ps s t := by
  refine keptBut_iff ?_ hsub; clear hsub
  unfold State.putCursor; simp

@[simp] theorem keptBut_joinDue {ps : List Part} {s t : State} (slot : Nat) (f : Feed) (hsub : [.store, .claims, .faults, .stats, .parity] ⊆ ps) :
    KeptBut ps s (t.joinDue slot f) ↔ KeptBut ps s t := by
  refine keptBut_iff ?_ hsub; clear hsub
  unfold State.joinDue; (try dsimp only); repeat' split
  all_goals simp

@[simp] theorem keptBut_chooseFeed {ps : List Part} {s t : State} (c : Composition) (hsub : [.claims] ⊆ ps) :
    KeptBut ps s (t.chooseFeed c) ↔ KeptBut ps s t := by
  refine keptBut_iff ?_ hsub; clear hsub
  unfold State.chooseFeed; split; simp

@[simp] theorem keptBut_cursorMoved {ps : List Part} {s t : State} (f : Feed) (hsub : [.claims] ⊆ ps) :
    KeptBut ps s (t.cursorMoved f) ↔ KeptBut ps s t := by
  refine keptBut_iff ?_ hsub; clear hsub
  unfold State.cursorMoved; repeat' split
  all_goals simp

@[simp] theorem keptBut_leaveDue {ps : List Part} {s t : State} (slot : Nat) (hsub : [.store, .claims, .faults, .stats, .parity] ⊆ ps) :
    KeptBut ps s (t.leaveDue slot) ↔ KeptBut ps s t := by
  refine keptBut_iff ?_ hsub; clear hsub
  unfold State.leaveDue; (try dsimp only); repeat' split
  all_goals simp

@[simp] theorem keptBut_removeEntry {ps : List Part} {s t : State} (slot : Nat) (hsub : [.tracker, .claims] ⊆ ps) :
    KeptBut ps s (t.removeEntry slot) ↔ KeptBut ps s t := by
  refine keptBut_iff ?_ hsub; clear hsub
  unfold State.removeEntry; (try dsimp only); repeat' split
  all_goals simp

@[simp] theorem keptBut_releaseReservation {ps : List Part} {s t : State} (slot : Nat) (hsub : [.tracker, .claims] ⊆ ps) :
    KeptBut ps s (t.releaseReservation slot) ↔ KeptBut ps s t := by
  refine keptBut_iff ?_ hsub; clear hsub
  unfold State.releaseReservation; (try dsimp only); repeat' split
  all_goals simp

@[simp] theorem keptBut_addBetween {ps : List Part} {s t : State} (slot : Nat) (m : Msg) (hsub : [.tracker] ⊆ ps) :
    KeptBut ps s (t.addBetween slot m) ↔ KeptBut ps s t := by
  refine keptBut_iff ?_ hsub; clear hsub
  unfold State.addBetween; simp

@[simp] theorem keptBut_applyHold {ps : List Part} {s t : State} (i n e : Nat) (hsub : [.subs, .queue, .stats, .faults, .parity] ⊆ ps) :
    KeptBut ps s (t.applyHold i n e) ↔ KeptBut ps s t := by
  refine keptBut_iff ?_ hsub; clear hsub
  unfold State.applyHold; (try dsimp only); repeat' split
  all_goals simp

@[simp] theorem keptBut_release {ps : List Part} {s t : State} (slot : Nat) (m : Msg) (o : NoticeBody) (hsub : [.span, .stats, .subs, .store, .intake, .faults, .parity] ⊆ ps) :
    KeptBut ps s (t.release slot m o) ↔ KeptBut ps s t := by
  refine keptBut_iff ?_ hsub; clear hsub
  unfold State.release; (try dsimp only)
  all_goals simp

@[simp] theorem keptBut_queueUsage {ps : List Part} {s t : State} (slot : Nat) (hsub : [.queue, .span, .stats, .subs, .store, .intake, .faults, .parity] ⊆ ps) :
    KeptBut ps s (t.queueUsage slot) ↔ KeptBut ps s t := by
  refine keptBut_iff ?_ hsub; clear hsub
  unfold State.queueUsage; repeat' split
  all_goals simp

@[simp] theorem keptBut_offerUsage {ps : List Part} {s t : State} (slot : Nat) (hsub : [.queue, .span, .stats, .subs, .store, .intake, .faults, .parity] ⊆ ps) :
    KeptBut ps s (t.offerUsage slot) ↔ KeptBut ps s t := by
  refine keptBut_iff ?_ hsub; clear hsub
  unfold State.offerUsage; (try dsimp only); repeat' split
  all_goals simp

@[simp] theorem keptBut_settle {ps : List Part} {s t : State} (slot : Nat) (hsub : [.queue, .span, .stats, .subs, .store, .intake, .faults, .parity] ⊆ ps) :
    KeptBut ps s (t.settle slot) ↔ KeptBut ps s t := by
  refine keptBut_iff ?_ hsub; clear hsub
  unfold State.settle; (try dsimp only); repeat' split
  all_goals simp

@[simp] theorem keptBut_enterFinishing {ps : List Part} {s t : State} (slot : Nat) (m : Msg) (d : Ending) (hsub : [.store, .tracker, .claims, .faults, .stats, .parity] ⊆ ps) :
    KeptBut ps s (t.enterFinishing slot m d) ↔ KeptBut ps s t := by
  refine keptBut_iff ?_ hsub; clear hsub
  unfold State.enterFinishing; (try dsimp only); repeat' split
  all_goals simp

@[simp] theorem keptBut_finishUnlinked {ps : List Part} {s t : State} (slot : Nat) (m : Msg) (d : Ending) (hsub : [.queue, .span, .stats, .subs, .store, .intake, .tracker, .claims, .faults, .parity] ⊆ ps) :
    KeptBut ps s (t.finishUnlinked slot m d) ↔ KeptBut ps s t := by
  refine keptBut_iff ?_ hsub; clear hsub
  unfold State.finishUnlinked
  all_goals simp

@[simp] theorem keptBut_revert {ps : List Part} {s t : State} (slot : Nat) (hsub : [.queue, .span, .stats, .subs, .store, .intake, .tracker, .claims, .faults, .parity] ⊆ ps) :
    KeptBut ps s (t.revert slot) ↔ KeptBut ps s t := by
  refine keptBut_iff ?_ hsub; clear hsub
  unfold State.revert; (try dsimp only); repeat' split
  all_goals simp

@[simp] theorem keptBut_dropItem {ps : List Part} {s t : State} (i : Item) (hsub : [.queue, .span, .stats, .subs, .store, .intake, .tracker, .claims, .faults, .parity] ⊆ ps) :
    KeptBut ps s (t.dropItem i) ↔ KeptBut ps s t := by
  refine keptBut_iff ?_ hsub; clear hsub
  unfold State.dropItem; repeat' split
  all_goals simp

@[simp] theorem keptBut_abandonWork {ps : List Part} {s t : State} (c : Composition) (hsub : [.queue, .span, .stats, .subs, .store, .intake, .tracker, .claims, .faults, .parity] ⊆ ps) :
    KeptBut ps s (t.abandonWork c) ↔ KeptBut ps s t := by
  refine keptBut_iff ?_ hsub; clear hsub
  unfold State.abandonWork; simp [keptBut_foldl]

@[simp] theorem keptBut_abandon {ps : List Part} {s t : State} (hsub : [.queue, .span, .stats, .subs, .store, .intake, .tracker, .claims, .faults, .parity] ⊆ ps) :
    KeptBut ps s (t.abandon) ↔ KeptBut ps s t := by
  refine keptBut_iff ?_ hsub; clear hsub
  unfold State.abandon; repeat' split
  all_goals simp

@[simp] theorem keptBut_finish {ps : List Part} {s t : State} (slot : Nat) (d : Ending) (hsub : [.queue, .span, .stats, .subs, .store, .intake, .tracker, .claims, .faults, .parity] ⊆ ps) :
    KeptBut ps s (t.finish slot d) ↔ KeptBut ps s t := by
  refine keptBut_iff ?_ hsub; clear hsub
  unfold State.finish State.finishNoting; repeat' split
  all_goals simp

@[simp] theorem keptBut_rest {ps : List Part} {s t : State} (slot : Nat) (m : Msg) (n : Serial) (hsub : [.store, .claims, .faults, .stats, .parity] ⊆ ps) :
    KeptBut ps s (t.rest slot m n) ↔ KeptBut ps s t := by
  refine keptBut_iff ?_ hsub; clear hsub
  unfold State.rest
  all_goals simp

@[simp] theorem keptBut_markSent {ps : List Part} {s t : State} (i : Item) (hsub : [.store, .faults, .stats, .parity] ⊆ ps) :
    KeptBut ps s (t.markSent i) ↔ KeptBut ps s t := by
  refine keptBut_iff ?_ hsub; clear hsub
  unfold State.markSent; repeat' split
  all_goals simp

@[simp] theorem keptBut_toWaiting {ps : List Part} {s t : State} (i : Item) (d : Serial) (hsub : [.tracker] ⊆ ps) :
    KeptBut ps s (t.toWaiting i d) ↔ KeptBut ps s t := by
  refine keptBut_iff ?_ hsub; clear hsub
  unfold State.toWaiting; dsimp only; split <;> simp

@[simp] theorem keptBut_carryItem {ps : List Part} {s t : State} (u : Serial) (i : Item) (hsub : [.queue, .span, .stats, .subs, .store, .intake, .tracker, .claims, .faults, .parity] ⊆ ps) :
    KeptBut ps s (State.carryItem u t i) ↔ KeptBut ps s t := by
  refine keptBut_iff ?_ hsub; clear hsub
  unfold State.carryItem; (try dsimp only); repeat' split
  all_goals simp

@[simp] theorem keptBut_spillItem {ps : List Part} {s t : State} (i : Item) (hsub : [.queue, .span, .stats, .subs, .store, .intake, .tracker, .claims, .faults, .parity] ⊆ ps) :
    KeptBut ps s (t.spillItem i) ↔ KeptBut ps s t := by
  refine keptBut_iff ?_ hsub; clear hsub
  unfold State.spillItem
  all_goals simp

@[simp] theorem keptBut_startComposition {ps : List Part} {s t : State} (w : WindowRec) (hsub : [.claims, .store, .faults, .stats] ⊆ ps) :
    KeptBut ps s (t.startComposition w) ↔ KeptBut ps s t := by
  refine keptBut_iff ?_ hsub; clear hsub
  unfold State.startComposition; (try dsimp only)
  all_goals simp

@[simp] theorem keptBut_testStart {ps : List Part} {s t : State} (hsub : [.claims, .store, .faults, .stats] ⊆ ps) :
    KeptBut ps s (t.testStart) ↔ KeptBut ps s t := by
  refine keptBut_iff ?_ hsub; clear hsub
  unfold State.testStart; (try dsimp only); repeat' split
  all_goals simp

@[simp] theorem keptBut_blockSub {ps : List Part} {s t : State} (i : Nat) (f : Feed) (hsub : [.claims] ⊆ ps) :
    KeptBut ps s (t.blockSub i f) ↔ KeptBut ps s t := by
  refine keptBut_iff ?_ hsub; clear hsub
  unfold State.blockSub; (try dsimp only)
  all_goals simp

@[simp] theorem keptBut_reserve {ps : List Part} {s t : State} (slot : Nat) (m : Msg) (hsub : [.tracker] ⊆ ps) :
    KeptBut ps s (t.reserve slot m) ↔ KeptBut ps s t := by
  refine keptBut_iff ?_ hsub; clear hsub
  unfold State.reserve; (try dsimp only)
  all_goals simp

@[simp] theorem keptBut_takeItem {ps : List Part} {s t : State} (c : Composition) (w : WindowRec) (f : Feed) (m : Msg) (i : Item) (hsub : [.store, .tracker, .claims, .faults, .stats, .parity] ⊆ ps) :
    KeptBut ps s (t.takeItem c w f m i) ↔ KeptBut ps s t := by
  refine keptBut_iff ?_ hsub; clear hsub
  unfold State.takeItem; (try dsimp only); repeat' split
  all_goals simp

@[simp] theorem keptBut_stayWith {ps : List Part} {s t : State} (c : Composition) (f : Feed) (hsub : [.claims] ⊆ ps) :
    KeptBut ps s (t.stayWith c f) ↔ KeptBut ps s t := by
  refine keptBut_iff ?_ hsub; clear hsub
  unfold State.stayWith; (try dsimp only); repeat' split
  all_goals simp

@[simp] theorem keptBut_treatMessage {ps : List Part} {s t : State} (c : Composition) (w : WindowRec) (f : Feed) (slot : Nat) (m : Msg) (hsub : [.faults, .queue, .span, .stats, .subs, .store, .intake, .tracker, .claims, .parity] ⊆ ps) :
    KeptBut ps s (t.treatMessage c w f slot m) ↔ KeptBut ps s t := by
  refine keptBut_iff ?_ hsub; clear hsub
  unfold State.treatMessage; repeat' split
  all_goals simp

@[simp] theorem keptBut_giveNext {ps : List Part} {s t : State} (w : Nat) (f : Feed) (slot : Nat) (hsub : [.store] ⊆ ps) :
    KeptBut ps s (t.giveNext w f slot) ↔ KeptBut ps s t := by
  refine keptBut_iff ?_ hsub; clear hsub
  unfold State.giveNext
  all_goals simp

@[simp] theorem keptBut_composeStep {ps : List Part} {s t : State} (hsub : [.faults, .queue, .span, .stats, .subs, .store, .intake, .tracker, .claims, .parity] ⊆ ps) :
    KeptBut ps s (t.composeStep) ↔ KeptBut ps s t := by
  refine keptBut_iff ?_ hsub; clear hsub
  unfold State.composeStep; (try dsimp only); repeat' split
  all_goals simp

@[simp] theorem keptBut_composeEnd {ps : List Part} {s t : State} (hsub : [.claims] ⊆ ps) :
    KeptBut ps s (t.composeEnd) ↔ KeptBut ps s t := by
  refine keptBut_iff ?_ hsub; clear hsub
  unfold State.composeEnd; (try dsimp only); repeat' split
  all_goals simp

@[simp] theorem keptBut_missingCarried {ps : List Part} {s t : State} (u : Serial) (c : ClaimRec) (hsub : [.queue, .span, .stats, .subs, .store, .intake, .tracker, .claims, .faults, .parity] ⊆ ps) :
    KeptBut ps s (State.missingCarried u t c) ↔ KeptBut ps s t := by
  refine keptBut_iff ?_ hsub; clear hsub
  unfold State.missingCarried; split <;> simp [keptBut_foldl]

@[simp] theorem keptBut_missingSpilled {ps : List Part} {s t : State} (c : ClaimRec) (hsub : [.queue, .span, .stats, .subs, .store, .intake, .tracker, .claims, .faults, .parity] ⊆ ps) :
    KeptBut ps s (t.missingSpilled c) ↔ KeptBut ps s t := by
  refine keptBut_iff ?_ hsub; clear hsub
  unfold State.missingSpilled; split <;> simp [keptBut_foldl]

@[simp] theorem keptBut_voidClaim {ps : List Part} {s t : State} (c : ClaimRec) (hsub : [.queue, .span, .stats, .subs, .store, .intake, .tracker, .claims, .faults, .parity] ⊆ ps) :
    KeptBut ps s (t.voidClaim c) ↔ KeptBut ps s t := by
  refine keptBut_iff ?_ hsub; clear hsub
  unfold State.voidClaim; split <;> simp [keptBut_foldl]

@[simp] theorem keptBut_closeAt {ps : List Part} {s t : State} (u : Serial) (hsub : [.queue, .span, .stats, .subs, .store, .intake, .tracker, .claims, .faults, .parity] ⊆ ps) :
    KeptBut ps s (t.closeAt u) ↔ KeptBut ps s t := by
  refine keptBut_iff ?_ hsub; clear hsub
  unfold State.closeAt; (try dsimp only); repeat' split
  all_goals simp

@[simp] theorem keptBut_expireUnclaimed {ps : List Part} {s t : State} (u : Serial) (slot : Nat) (hsub : [.queue, .span, .stats, .subs, .store, .intake, .tracker, .claims, .faults, .parity] ⊆ ps) :
    KeptBut ps s (State.expireUnclaimed u t slot) ↔ KeptBut ps s t := by
  refine keptBut_iff ?_ hsub; clear hsub
  unfold State.expireUnclaimed; repeat' split
  all_goals simp

@[simp] theorem keptBut_expireList {ps : List Part} {s t : State} (w : Nat) (u : Serial) (f : Feed) (hsub : [.queue, .span, .stats, .subs, .store, .intake, .tracker, .claims, .faults, .parity] ⊆ ps) :
    KeptBut ps s (State.expireList w u t f) ↔ KeptBut ps s t := by
  refine keptBut_iff ?_ hsub; clear hsub
  unfold State.expireList; simp [keptBut_foldl]

@[simp] theorem keptBut_openingWalk {ps : List Part} {s t : State} (w : Nat) (u : Serial) (hsub : [.queue, .span, .stats, .subs, .store, .intake, .tracker, .claims, .faults, .parity] ⊆ ps) :
    KeptBut ps s (t.openingWalk w u) ↔ KeptBut ps s t := by
  refine keptBut_iff ?_ hsub; clear hsub
  unfold State.openingWalk
  all_goals simp

@[simp] theorem keptBut_openWindow {ps : List Part} {s t : State} (x : AirTime) (u : Serial) (p : AirPlan) (hsub : [.queue, .span, .stats, .subs, .store, .intake, .tracker, .claims, .faults, .parity] ⊆ ps) :
    KeptBut ps s (t.openWindow x u p) ↔ KeptBut ps s t := by
  refine keptBut_iff ?_ hsub; clear hsub
  unfold State.openWindow; (try dsimp only)
  all_goals simp

@[simp] theorem keptBut_claimsOnMark {ps : List Part} {s t : State} (u : Serial) (x : AirTime) (p : AirPlan) (hsub : [.queue, .span, .stats, .subs, .store, .intake, .tracker, .claims, .faults, .parity] ⊆ ps) :
    KeptBut ps s (t.claimsOnMark u x p) ↔ KeptBut ps s t := by
  refine keptBut_iff ?_ hsub; clear hsub
  unfold State.claimsOnMark State.resolveAt; dsimp only; repeat' split
  all_goals simp [keptBut_foldl]

@[simp] theorem keptBut_claimsOnCoast {ps : List Part} {s t : State} (u : Serial) (hsub : [.queue, .span, .stats, .subs, .store, .intake, .tracker, .claims, .faults, .parity] ⊆ ps) :
    KeptBut ps s (t.claimsOnCoast u) ↔ KeptBut ps s t := by
  refine keptBut_iff ?_ hsub; clear hsub
  unfold State.claimsOnCoast State.resolveAt; dsimp only; repeat' split
  all_goals simp [keptBut_foldl]

@[simp] theorem keptBut_voidAll {ps : List Part} {s t : State} (hsub : [.queue, .span, .stats, .subs, .store, .intake, .tracker, .claims, .faults, .parity] ⊆ ps) :
    KeptBut ps s (t.voidAll) ↔ KeptBut ps s t := by
  refine keptBut_iff ?_ hsub; clear hsub
  unfold State.voidAll; simp [keptBut_foldl]

@[simp] theorem keptBut_ownClaim {ps : List Part} {s t : State} (hsub : [.claims] ⊆ ps) :
    KeptBut ps s (t.ownClaim) ↔ KeptBut ps s t := by
  refine keptBut_iff ?_ hsub; clear hsub
  unfold State.ownClaim; (try dsimp only); repeat' split
  all_goals simp

@[simp] theorem keptBut_takeClaim {ps : List Part} {s t : State} (src : Nat) (b : ClaimBody) (hsub : [.faults, .queue, .span, .stats, .subs, .store, .intake, .tracker, .claims, .parity] ⊆ ps) :
    KeptBut ps s (t.takeClaim src b) ↔ KeptBut ps s t := by
  refine keptBut_iff ?_ hsub; clear hsub
  unfold State.takeClaim; (try dsimp only); repeat' split
  all_goals simp

@[simp] theorem keptBut_keepSent {ps : List Part} {s t : State} (w : WindowRec) (c : Composition) (hsub : [.store, .claims, .stats, .faults, .parity] ⊆ ps) :
    KeptBut ps s (t.keepSent w c) ↔ KeptBut ps s t := by
  refine keptBut_iff ?_ hsub; clear hsub
  unfold State.keepSent; simp [keptBut_foldl]

@[simp] theorem keptBut_claimSent {ps : List Part} {s t : State} (hsub : [.span, .store, .claims, .stats, .faults, .parity] ⊆ ps) :
    KeptBut ps s (t.claimSent) ↔ KeptBut ps s t := by
  refine keptBut_iff ?_ hsub; clear hsub
  unfold State.claimSent; (try dsimp only); repeat' split
  all_goals simp

@[simp] theorem keptBut_settleClaim {ps : List Part} {s t : State} (u : Serial) (c : ClaimRec) (n : Nat) (hsub : [.queue, .span, .stats, .subs, .store, .intake, .tracker, .claims, .faults, .parity] ⊆ ps) :
    KeptBut ps s (t.settleClaim u c n) ↔ KeptBut ps s t := by
  refine keptBut_iff ?_ hsub; clear hsub
  unfold State.settleClaim; simp [keptBut_foldl]

@[simp] theorem keptBut_reportEntry {ps : List Part} {s t : State} (x : AirTime) (r : ReportEntry) (hsub : [.queue, .span, .stats, .subs, .store, .intake, .tracker, .claims, .faults, .parity] ⊆ ps) :
    KeptBut ps s (State.reportEntry x t r) ↔ KeptBut ps s t := by
  refine keptBut_iff ?_ hsub; clear hsub
  unfold State.reportEntry; (try dsimp only); repeat' split
  all_goals simp

@[simp] theorem keptBut_takeReport {ps : List Part} {s t : State} (b : ReportBody) (hsub : [.faults, .queue, .span, .stats, .subs, .store, .intake, .tracker, .claims, .parity] ⊆ ps) :
    KeptBut ps s (t.takeReport b) ↔ KeptBut ps s t := by
  refine keptBut_iff ?_ hsub; clear hsub
  unfold State.takeReport; simp [keptBut_foldl]

@[simp] theorem keptBut_restAtDeadline {ps : List Part} {s t : State} (slot : Nat) (m : Msg) (n : Serial) (hsub : [.tracker, .store, .claims, .faults, .stats, .parity] ⊆ ps) :
    KeptBut ps s (t.restAtDeadline slot m n) ↔ KeptBut ps s t := by
  refine keptBut_iff ?_ hsub; clear hsub
  unfold State.restAtDeadline; (try dsimp only)
  all_goals simp

@[simp] theorem keptBut_decideDeadline {ps : List Part} {s t : State} (u : Serial) (w slot : Nat) (m : Msg) (hsub : [.queue, .span, .stats, .subs, .store, .intake, .tracker, .claims, .faults, .parity] ⊆ ps) :
    KeptBut ps s (t.decideDeadline u w slot m) ↔ KeptBut ps s t := by
  refine keptBut_iff ?_ hsub; clear hsub
  unfold State.decideDeadline; repeat' split
  all_goals simp

@[simp] theorem keptBut_meetDeadline {ps : List Part} {s t : State} (u : Serial) (w slot : Nat) (hsub : [.queue, .span, .stats, .subs, .store, .intake, .tracker, .claims, .faults, .parity] ⊆ ps) :
    KeptBut ps s (State.meetDeadline u w t slot) ↔ KeptBut ps s t := by
  refine keptBut_iff ?_ hsub; clear hsub
  unfold State.meetDeadline; (try dsimp only); repeat' split
  all_goals simp

@[simp] theorem keptBut_trackerOnWindow {ps : List Part} {s t : State} (u : Serial) (w : Nat) (hsub : [.queue, .span, .stats, .subs, .store, .intake, .tracker, .claims, .faults, .parity] ⊆ ps) :
    KeptBut ps s (t.trackerOnWindow u w) ↔ KeptBut ps s t := by
  refine keptBut_iff ?_ hsub; clear hsub
  unfold State.trackerOnWindow; simp [keptBut_foldl]

@[simp] theorem keptBut_applyHeard {ps : List Part} {s t : State} (b : HeardBody) (slot : Nat) (m : Msg) (hsub : [.queue, .span, .stats, .subs, .store, .intake, .tracker, .claims, .faults, .parity] ⊆ ps) :
    KeptBut ps s (t.applyHeard b slot m) ↔ KeptBut ps s t := by
  refine keptBut_iff ?_ hsub; clear hsub
  unfold State.applyHeard; (try dsimp only); repeat' split
  all_goals simp

@[simp] theorem keptBut_takeHeard {ps : List Part} {s t : State} (b : HeardBody) (hsub : [.faults, .queue, .span, .stats, .subs, .store, .intake, .tracker, .claims, .parity] ⊆ ps) :
    KeptBut ps s (t.takeHeard b) ↔ KeptBut ps s t := by
  refine keptBut_iff ?_ hsub; clear hsub
  unfold State.takeHeard; (try dsimp only); repeat' split
  all_goals simp

@[simp] theorem keptBut_announceMark {ps : List Part} {s t : State} (e : Env) (u : Serial) (x : AirTime) (p : AirPlan) (hsub : [.faults, .queue, .span, .stats, .subs, .store, .intake, .tracker, .claims, .parity] ⊆ ps) :
    KeptBut ps s (t.announceMark e u x p) ↔ KeptBut ps s t := by
  refine keptBut_iff ?_ hsub; clear hsub
  unfold State.announceMark inOrder; split <;> simp

@[simp] theorem keptBut_announceCoast {ps : List Part} {s t : State} (e : Env) (u : Serial) (x : AirTime) (hsub : [.faults, .queue, .span, .stats, .subs, .store, .intake, .tracker, .claims, .parity] ⊆ ps) :
    KeptBut ps s (t.announceCoast e u x) ↔ KeptBut ps s t := by
  refine keptBut_iff ?_ hsub; clear hsub
  unfold State.announceCoast inOrder; split <;> simp

@[simp] theorem keptBut_beginByMark {ps : List Part} {s t : State} (e : Env) (x : AirTime) (m : Nat) (p : AirPlan) (hsub : [.clock, .faults, .queue, .span, .stats, .subs, .store, .intake, .tracker, .claims, .parity] ⊆ ps) :
    KeptBut ps s (t.beginByMark e x m p) ↔ KeptBut ps s t := by
  refine keptBut_iff ?_ hsub; clear hsub
  unfold State.beginByMark
  all_goals simp

@[simp] theorem keptBut_markInSearch {ps : List Part} {s t : State} (e : Env) (x : AirTime) (m : Nat) (p : AirPlan) (hsub : [.clock, .faults, .queue, .span, .stats, .subs, .store, .intake, .tracker, .claims, .parity] ⊆ ps) :
    KeptBut ps s (t.markInSearch e x m p) ↔ KeptBut ps s t := by
  refine keptBut_iff ?_ hsub; clear hsub
  unfold State.markInSearch; (try dsimp only); repeat' split
  all_goals simp

@[simp] theorem keptBut_markOutOfStep {ps : List Part} {s t : State} (e : Env) (x : AirTime) (m : Nat) (p : AirPlan) (hsub : [.clock, .faults, .queue, .span, .stats, .subs, .store, .intake, .tracker, .claims, .parity] ⊆ ps) :
    KeptBut ps s (t.markOutOfStep e x m p) ↔ KeptBut ps s t := by
  refine keptBut_iff ?_ hsub; clear hsub
  unfold State.markOutOfStep; (try dsimp only); repeat' split
  all_goals simp

@[simp] theorem keptBut_markInStep {ps : List Part} {s t : State} (e : Env) (c : Current) (x : AirTime) (m : Nat) (p : AirPlan) (hsub : [.clock, .faults, .queue, .span, .stats, .subs, .store, .intake, .tracker, .claims, .parity] ⊆ ps) :
    KeptBut ps s (t.markInStep e c x m p) ↔ KeptBut ps s t := by
  refine keptBut_iff ?_ hsub; clear hsub
  unfold State.markInStep; (try dsimp only); repeat' split
  all_goals simp

@[simp] theorem keptBut_takeMark {ps : List Part} {s t : State} (e : Env) (b : MarkBody) (hsub : [.clock, .faults, .queue, .span, .stats, .subs, .store, .intake, .tracker, .claims, .parity] ⊆ ps) :
    KeptBut ps s (t.takeMark e b) ↔ KeptBut ps s t := by
  refine keptBut_iff ?_ hsub; clear hsub
  unfold State.takeMark; repeat' split
  all_goals simp

@[simp] theorem keptBut_coast {ps : List Part} {s t : State} (e : Env) (hsub : [.now, .clock, .faults, .queue, .span, .stats, .subs, .store, .intake, .tracker, .claims, .parity] ⊆ ps) :
    KeptBut ps s (t.coast e) ↔ KeptBut ps s t := by
  refine keptBut_iff ?_ hsub; clear hsub
  unfold State.coast; (try dsimp only); repeat' split
  all_goals simp

@[simp] theorem keptBut_accept {ps : List Part} {s t : State} (slot : Nat) (d : Delayed) (h : Shaped) (b : Basis) (e : Nat) (hsub : [.queue, .stats, .subs, .store, .claims, .faults, .parity] ⊆ ps) :
    KeptBut ps s (t.accept slot d h b e) ↔ KeptBut ps s t := by
  refine keptBut_iff ?_ hsub; clear hsub
  unfold State.accept; dsimp only; split <;> simp

@[simp] theorem keptBut_judgeDeposit {ps : List Part} {s t : State} (d : Delayed) (hsub : [.queue, .stats, .subs, .store, .claims, .faults, .parity] ⊆ ps) :
    KeptBut ps s ((t.judgeDeposit d).1) ↔ KeptBut ps s t := by
  refine keptBut_iff ?_ hsub; clear hsub
  unfold State.judgeDeposit; (try dsimp only); repeat' split
  all_goals simp

@[simp] theorem keptBut_perform {ps : List Part} {s t : State} (d : Delayed) (hsub : [.queue, .stats, .subs, .store, .claims, .faults, .parity] ⊆ ps) :
    KeptBut ps s ((t.perform d).1) ↔ KeptBut ps s t := by
  refine keptBut_iff ?_ hsub; clear hsub
  unfold State.perform; (try dsimp only); repeat' split
  all_goals simp

@[simp] theorem keptBut_newDeposit {ps : List Part} {s t : State} (d : Delayed) (hsub : [.queue, .span, .stats, .subs, .store, .intake, .claims, .faults, .parity] ⊆ ps) :
    KeptBut ps s (t.newDeposit d) ↔ KeptBut ps s t := by
  refine keptBut_iff ?_ hsub; clear hsub
  unfold State.newDeposit; repeat' split
  · simp
  · simp
  · rename_i s1 x hx; have : s1 = (t.perform d).1 := by rw [hx]
    subst this; simp

@[simp] theorem keptBut_takeDeposit {ps : List Part} {s t : State} (src : Nat) (b : DepositBody) (hsub : [.faults, .queue, .span, .stats, .subs, .store, .intake, .claims, .parity] ⊆ ps) :
    KeptBut ps s (t.takeDeposit src b) ↔ KeptBut ps s t := by
  refine keptBut_iff ?_ hsub; clear hsub
  unfold State.takeDeposit; (try dsimp only); repeat' split
  all_goals simp

@[simp] theorem keptBut_performEntry {ps : List Part} {s t : State} (d : Delayed) (hsub : [.queue, .stats, .subs, .store, .intake, .claims, .faults, .parity] ⊆ ps) :
    KeptBut ps s (t.performEntry d) ↔ KeptBut ps s t := by
  refine keptBut_iff ?_ hsub; clear hsub
  unfold State.performEntry; split
  rename_i s1 x hx; have : s1 = (t.perform d).1 := by rw [hx]
  subst this; simp

@[simp] theorem keptBut_runEntries {ps : List Part} {s t : State} (n : Nat) (hsub : [.queue, .stats, .subs, .store, .intake, .claims, .faults, .parity] ⊆ ps) :
    KeptBut ps s (State.runEntries n t) ↔ KeptBut ps s t := by
  refine keptBut_iff ?_ hsub; clear hsub
  induction n generalizing t with
  | zero => simp [State.runEntries]
  | succ n ih =>
    unfold State.runEntries; repeat' split
    · exact (by simp : KeptBut _ t _).trans ih
    · simp
    · simp

@[simp] theorem keptBut_delayedRun {ps : List Part} {s t : State} (hsub : [.faults, .queue, .stats, .subs, .store, .intake, .claims, .parity] ⊆ ps) :
    KeptBut ps s (t.delayedRun) ↔ KeptBut ps s t := by
  refine keptBut_iff ?_ hsub; clear hsub
  unfold State.delayedRun; (try dsimp only); repeat' split
  all_goals simp

@[simp] theorem keptBut_discard {ps : List Part} {s t : State} (o tag : Nat) (hsub : [.now, .intake, .stats] ⊆ ps) :
    KeptBut ps s (t.discard o tag) ↔ KeptBut ps s t := by
  refine keptBut_iff ?_ hsub; clear hsub
  unfold State.discard; (try dsimp only); repeat' split
  all_goals simp

@[simp] theorem keptBut_recallMsg {ps : List Part} {s t : State} (src : Nat) (b : RecallBody) (slot : Nat) (m : Msg) (hsub : [.queue, .span, .stats, .subs, .store, .intake, .tracker, .claims, .faults, .parity] ⊆ ps) :
    KeptBut ps s (t.recallMsg src b slot m) ↔ KeptBut ps s t := by
  refine keptBut_iff ?_ hsub; clear hsub
  unfold State.recallMsg State.finishNoting; dsimp only; repeat' split
  all_goals simp

@[simp] theorem keptBut_takeRecall {ps : List Part} {s t : State} (src : Nat) (b : RecallBody) (hsub : [.faults, .queue, .span, .stats, .subs, .store, .intake, .tracker, .claims, .parity] ⊆ ps) :
    KeptBut ps s (t.takeRecall src b) ↔ KeptBut ps s t := by
  refine keptBut_iff ?_ hsub; clear hsub
  unfold State.takeRecall; (try dsimp only); repeat' split
  all_goals simp

@[simp] theorem keptBut_takeTariff {ps : List Part} {s t : State} (b : TariffBody) (hsub : [.charge, .faults, .stats, .parity] ⊆ ps) :
    KeptBut ps s (t.takeTariff b) ↔ KeptBut ps s t := by
  refine keptBut_iff ?_ hsub; clear hsub
  unfold State.takeTariff; (try dsimp only); repeat' split
  all_goals simp

@[simp] theorem keptBut_applyCredit {ps : List Part} {s t : State} (i tag n : Nat) (hsub : [.subs, .stats, .faults, .parity] ⊆ ps) :
    KeptBut ps s (t.applyCredit i tag n) ↔ KeptBut ps s t := by
  refine keptBut_iff ?_ hsub; clear hsub
  unfold State.applyCredit; (try dsimp only); repeat' split
  all_goals simp

@[simp] theorem keptBut_takeCredit {ps : List Part} {s t : State} (src : Nat) (q : Bool) (b : CreditBody) (hsub : [.subs, .stats, .span, .faults, .parity] ⊆ ps) :
    KeptBut ps s (t.takeCredit src q b) ↔ KeptBut ps s t := by
  refine keptBut_iff ?_ hsub; clear hsub
  unfold State.takeCredit; (try dsimp only); repeat' split
  all_goals simp

@[simp] theorem keptBut_depart {ps : List Part} {s t : State} (hsub : [.queue, .intake, .store, .stats, .faults, .parity] ⊆ ps) :
    KeptBut ps s (t.depart) ↔ KeptBut ps s t := by
  refine keptBut_iff ?_ hsub; clear hsub
  unfold State.depart; (try dsimp only); repeat' split
  all_goals simp

@[simp] theorem keptBut_recordUnanswered {ps : List Part} {s t : State} (hsub : [.queue, .stats] ⊆ ps) :
    KeptBut ps s (t.recordUnanswered) ↔ KeptBut ps s t := by
  refine keptBut_iff ?_ hsub; clear hsub
  unfold State.recordUnanswered; (try dsimp only)
  all_goals simp

@[simp] theorem keptBut_recordSlot {ps : List Part} {s t : State} (d : Bool)
    (hsub : [.faults, .span, .queue, .intake, .store, .stats, .parity] ⊆ ps) :
    KeptBut ps s (t.recordSlot d) ↔ KeptBut ps s t := by
  refine keptBut_iff ?_ hsub; clear hsub
  unfold State.recordSlot; (try dsimp only); repeat' split
  all_goals simp

@[simp] theorem keptBut_resendExpiry {ps : List Part} {s t : State} (hsub : [.now, .queue] ⊆ ps) :
    KeptBut ps s (t.resendExpiry) ↔ KeptBut ps s t := by
  refine keptBut_iff ?_ hsub; clear hsub
  unfold State.resendExpiry; (try dsimp only); repeat' split
  all_goals simp

@[simp] theorem keptBut_stallExpiry {ps : List Part} {s t : State} (hsub : [.now, .queue, .faults, .stats] ⊆ ps) :
    KeptBut ps s (t.stallExpiry) ↔ KeptBut ps s t := by
  refine keptBut_iff ?_ hsub; clear hsub
  unfold State.stallExpiry; (try dsimp only); repeat' split
  all_goals simp

@[simp] theorem keptBut_promoteTariffs {ps : List Part} {s t : State} (hsub : [.charge, .faults, .stats, .parity] ⊆ ps) :
    KeptBut ps s (t.promoteTariffs) ↔ KeptBut ps s t := by
  refine keptBut_iff ?_ hsub; clear hsub
  unfold State.promoteTariffs; simp

@[simp] theorem keptBut_acceptClose {ps : List Part} {s t : State} (p : Nat) (hsub : [.queue, .charge, .stats, .faults, .parity] ⊆ ps) :
    KeptBut ps s (t.acceptClose p) ↔ KeptBut ps s t := by
  refine keptBut_iff ?_ hsub; clear hsub
  unfold State.acceptClose; (try dsimp only)
  all_goals simp

@[simp] theorem keptBut_takeClose {ps : List Part} {s t : State} (p : Nat) (hsub : [.queue, .charge, .stats, .faults, .parity] ⊆ ps) :
    KeptBut ps s (t.takeClose p) ↔ KeptBut ps s t := by
  refine keptBut_iff ?_ hsub; clear hsub
  unfold State.takeClose; (try dsimp only); repeat' split
  all_goals simp

@[simp] theorem keptBut_putSweep {ps : List Part} {s t : State} (w : Option Sweep) (hsub : [.queue, .faults, .stats, .parity] ⊆ ps) :
    KeptBut ps s (t.putSweep w) ↔ KeptBut ps s t := by
  refine keptBut_iff ?_ hsub; clear hsub
  unfold State.putSweep; (try dsimp only)
  all_goals simp

@[simp] theorem keptBut_pauseSweep {ps : List Part} {s t : State} (w : Sweep) (hsub : [.queue] ⊆ ps) :
    KeptBut ps s (t.pauseSweep w) ↔ KeptBut ps s t := by
  refine keptBut_iff ?_ hsub; clear hsub
  unfold State.pauseSweep; simp

@[simp] theorem keptBut_sweepTotal {ps : List Part} {s t : State} (w : Sweep) (r : Subscriber) (hsub : [.queue, .subs, .faults, .stats, .parity] ⊆ ps) :
    KeptBut ps s (t.sweepTotal w r) ↔ KeptBut ps s t := by
  refine keptBut_iff ?_ hsub; clear hsub
  unfold State.sweepTotal; (try dsimp only)
  all_goals simp

@[simp] theorem keptBut_sweepStep {ps : List Part} {s t : State} (hsub : [.queue, .subs, .faults, .stats, .parity] ⊆ ps) :
    KeptBut ps s (t.sweepStep) ↔ KeptBut ps s t := by
  refine keptBut_iff ?_ hsub; clear hsub
  unfold State.sweepStep; (try dsimp only); repeat' split
  all_goals simp

@[simp] theorem keptBut_sweepEnd {ps : List Part} {s t : State} (hsub : [.faults, .stats, .queue, .parity] ⊆ ps) :
    KeptBut ps s (t.sweepEnd) ↔ KeptBut ps s t := by
  refine keptBut_iff ?_ hsub; clear hsub
  unfold State.sweepEnd; (try dsimp only); repeat' split
  all_goals simp

@[simp] theorem keptBut_serveWaiters {ps : List Part} {s t : State} (n : Nat) (hsub : [.queue, .span, .stats, .subs, .store, .intake, .faults, .parity] ⊆ ps) :
    KeptBut ps s (State.serveWaiters n t) ↔ KeptBut ps s t := by
  refine keptBut_iff ?_ hsub; clear hsub
  induction n generalizing t with
  | zero => simp [State.serveWaiters]
  | succ n ih =>
    unfold State.serveWaiters; repeat' split
    · exact (by simp : KeptBut _ t _).trans ih
    · simp
    · simp

@[simp] theorem keptBut_serveWaitList {ps : List Part} {s t : State} (hsub : [.faults, .queue, .span, .stats, .subs, .store, .intake, .parity] ⊆ ps) :
    KeptBut ps s (t.serveWaitList) ↔ KeptBut ps s t := by
  refine keptBut_iff ?_ hsub; clear hsub
  unfold State.serveWaitList; (try dsimp only); repeat' split
  all_goals simp

@[simp] theorem keptBut_queueFinals {ps : List Part} {s t : State} (i n : Nat) (r : Subscriber) (hsub : [.queue, .faults, .stats, .parity] ⊆ ps) :
    KeptBut ps s (t.queueFinals i n r) ↔ KeptBut ps s t := by
  refine keptBut_iff ?_ hsub; clear hsub
  unfold State.queueFinals; dsimp only; repeat' split
  all_goals simp [keptBut_foldl]

@[simp] theorem keptBut_blindIfRepeated {ps : List Part} {s t : State} (n : Nat) (slot : Nat) (hsub : [.queue, .span, .stats, .subs, .store, .intake, .tracker, .claims, .faults, .parity] ⊆ ps) :
    KeptBut ps s (State.blindIfRepeated n t slot) ↔ KeptBut ps s t := by
  refine keptBut_iff ?_ hsub; clear hsub
  unfold State.blindIfRepeated; repeat' split
  all_goals simp

@[simp] theorem keptBut_repeatWalk {ps : List Part} {s t : State} (r : Subscriber) (n : Nat) (hsub : [.queue, .span, .stats, .subs, .store, .intake, .tracker, .claims, .faults, .parity] ⊆ ps) :
    KeptBut ps s (t.repeatWalk r n) ↔ KeptBut ps s t := by
  refine keptBut_iff ?_ hsub; clear hsub
  unfold State.repeatWalk; split <;> simp [keptBut_foldl]

@[simp] theorem keptBut_loadAnswer {ps : List Part} {s t : State} (src i : Nat) (b : LoadBody) (c : LoadCode) (r : BusyReason) (n : Nat) (hsub : [.span, .stats] ⊆ ps) :
    KeptBut ps s (t.loadAnswer src i b c r n) ↔ KeptBut ps s t := by
  refine keptBut_iff ?_ hsub; clear hsub
  unfold State.loadAnswer
  all_goals simp

@[simp] theorem keptBut_replaceSub {ps : List Part} {s t : State} (i : Nat) (r : Subscriber) (b : LoadBody) (hsub : [.queue, .span, .stats, .subs, .store, .intake, .tracker, .claims, .faults, .parity] ⊆ ps) :
    KeptBut ps s (t.replaceSub i r b) ↔ KeptBut ps s t := by
  refine keptBut_iff ?_ hsub; clear hsub
  unfold State.replaceSub; dsimp only; repeat' split
  all_goals simp

@[simp] theorem keptBut_loadSet {ps : List Part} {s t : State} (src i : Nat) (b : LoadBody) (hsub : [.queue, .span, .stats, .subs, .store, .intake, .tracker, .claims, .faults, .parity] ⊆ ps) :
    KeptBut ps s (t.loadSet src i b) ↔ KeptBut ps s t := by
  refine keptBut_iff ?_ hsub; clear hsub
  unfold State.loadSet; dsimp only; repeat' split
  all_goals simp

@[simp] theorem keptBut_loadVacate {ps : List Part} {s t : State} (src i : Nat) (b : LoadBody) (hsub : [.subs, .queue, .span, .stats, .faults, .parity] ⊆ ps) :
    KeptBut ps s (t.loadVacate src i b) ↔ KeptBut ps s t := by
  refine keptBut_iff ?_ hsub; clear hsub
  unfold State.loadVacate; dsimp only; repeat' split
  all_goals simp

@[simp] theorem keptBut_takeLoad {ps : List Part} {s t : State} (src : Nat) (q : Bool) (o : Byte) (b : LoadBody) (hsub : [.faults, .queue, .span, .stats, .subs, .store, .intake, .tracker, .claims, .parity] ⊆ ps) :
    KeptBut ps s (t.takeLoad src q o b) ↔ KeptBut ps s t := by
  refine keptBut_iff ?_ hsub; clear hsub
  unfold State.takeLoad; (try dsimp only); repeat' split
  all_goals simp

@[simp] theorem keptBut_assertReset {ps : List Part} {s t : State} (n : Nat) (hsub : [.unit, .faults, .span, .claims] ⊆ ps) :
    KeptBut ps s (t.assertReset n) ↔ KeptBut ps s t := by
  refine keptBut_iff ?_ hsub; clear hsub
  unfold State.assertReset; (try dsimp only); repeat' split
  all_goals simp

@[simp] theorem keptBut_releaseReset {ps : List Part} {s t : State} (hsub : [.unit] ⊆ ps) :
    KeptBut ps s (t.releaseReset) ↔ KeptBut ps s t := by
  refine keptBut_iff ?_ hsub; clear hsub
  unfold State.releaseReset; (try dsimp only); repeat' split
  all_goals simp

@[simp] theorem keptBut_coldOnChip {ps : List Part} {s t : State} (hsub : [.stats, .span, .intake, .claims, .tracker, .clock, .store, .queue] ⊆ ps) :
    KeptBut ps s (t.coldOnChip) ↔ KeptBut ps s t := by
  refine keptBut_iff ?_ hsub; clear hsub
  unfold State.coldOnChip; (try dsimp only)
  all_goals simp

@[simp] theorem keptBut_coldClock {ps : List Part} {s t : State} (hsub : [.clock, .stats] ⊆ ps) :
    KeptBut ps s (t.coldClock) ↔ KeptBut ps s t := by
  refine keptBut_iff ?_ hsub; clear hsub
  unfold State.coldClock; simp

@[simp] theorem keptBut_rejectSetup {ps : List Part} {s t : State} (hsub : [.unit, .clock, .stats, .claims, .faults] ⊆ ps) :
    KeptBut ps s (t.rejectSetup) ↔ KeptBut ps s t := by
  refine keptBut_iff ?_ hsub; clear hsub
  unfold State.rejectSetup; simp

@[simp] theorem keptBut_setupRead {ps : List Part} {s t : State} (l : SetupLine) (x : BitVec 5) (hsub : [.stats, .span, .intake, .claims, .tracker, .clock, .store, .queue, .unit, .faults] ⊆ ps) :
    KeptBut ps s (t.setupRead l x) ↔ KeptBut ps s t := by
  refine keptBut_iff ?_ hsub; clear hsub
  unfold State.setupRead; (try dsimp only); repeat' split
  all_goals simp

@[simp] theorem keptBut_initDone {ps : List Part} {s t : State} (hsub : [.subs, .store, .queue, .charge, .clock, .unit, .parity] ⊆ ps) :
    KeptBut ps s (t.initDone) ↔ KeptBut ps s t := by
  refine keptBut_iff ?_ hsub; clear hsub
  unfold State.initDone; (try dsimp only); repeat' split
  all_goals simp

@[simp] theorem keptBut_takeRestart {ps : List Part} {s t : State} (hsub : [.stats, .span, .intake, .claims, .tracker, .clock, .store, .queue, .unit, .faults] ⊆ ps) :
    KeptBut ps s (t.takeRestart) ↔ KeptBut ps s t := by
  refine keptBut_iff ?_ hsub; clear hsub
  unfold State.takeRestart; (try dsimp only)
  all_goals simp

@[simp] theorem keptBut_restoreEntry {ps : List Part} {s t : State} (slot : Nat) (m : Msg) (hsub : [.tracker] ⊆ ps) :
    KeptBut ps s (t.restoreEntry slot m) ↔ KeptBut ps s t := by
  refine keptBut_iff ?_ hsub; clear hsub
  unfold State.restoreEntry; repeat' split
  all_goals simp

@[simp] theorem keptBut_clearLink {ps : List Part} {s t : State} (slot : Nat) (m : Msg) (hsub : [.store, .faults, .stats, .parity] ⊆ ps) :
    KeptBut ps s (t.clearLink slot m) ↔ KeptBut ps s t := by
  refine keptBut_iff ?_ hsub; clear hsub
  unfold State.clearLink; split <;> simp

@[simp] theorem keptBut_recoverMsg {ps : List Part} {s t : State} (slot : Nat) (m : Msg) (hsub : [.queue, .span, .stats, .subs, .store, .intake, .tracker, .claims, .faults, .parity] ⊆ ps) :
    KeptBut ps s (t.recoverMsg slot m) ↔ KeptBut ps s t := by
  refine keptBut_iff ?_ hsub; clear hsub
  unfold State.recoverMsg; (try dsimp only); repeat' split
  all_goals simp

@[simp] theorem keptBut_recoveryStep {ps : List Part} {s t : State} (e : Env) (hsub : [.now, .faults, .unit, .queue, .span, .stats, .subs, .store, .intake, .tracker, .claims, .parity] ⊆ ps) :
    KeptBut ps s (t.recoveryStep e) ↔ KeptBut ps s t := by
  refine keptBut_iff ?_ hsub; clear hsub
  unfold State.recoveryStep; (try dsimp only); repeat' split
  all_goals simp

@[simp] theorem keptBut_recoveryDone {ps : List Part} {s t : State} (e : Env) (hsub : [.now, .faults, .stats, .unit, .queue] ⊆ ps) :
    KeptBut ps s (t.recoveryDone e) ↔ KeptBut ps s t := by
  refine keptBut_iff ?_ hsub; clear hsub
  unfold State.recoveryDone; (try dsimp only); repeat' split
  all_goals simp

@[simp] theorem keptBut_faultExpiry {ps : List Part} {s t : State} (hsub : [.now, .faults] ⊆ ps) :
    KeptBut ps s (t.faultExpiry) ↔ KeptBut ps s t := by
  refine keptBut_iff ?_ hsub; clear hsub
  unfold State.faultExpiry; (try dsimp only); repeat' split
  all_goals simp

@[simp] theorem keptBut_clearStats {ps : List Part} {s t : State} (hsub : [.stats, .faults] ⊆ ps) :
    KeptBut ps s (t.clearStats) ↔ KeptBut ps s t := by
  refine keptBut_iff ?_ hsub; clear hsub
  unfold State.clearStats; (try dsimp only)
  all_goals simp

@[simp] theorem keptBut_queryAnswer {ps : List Part} {s t : State} (src tag : Nat) (k : QueryKind) (c : QueryContents) (hsub : [.span, .stats] ⊆ ps) :
    KeptBut ps s (t.queryAnswer src tag k c) ↔ KeptBut ps s t := by
  refine keptBut_iff ?_ hsub; clear hsub
  unfold State.queryAnswer
  all_goals simp

@[simp] theorem keptBut_takeQueryStats {ps : List Part} {s t : State} (src : Nat) (tag : Nat) (c : Bool) (hsub : [.span, .stats, .faults] ⊆ ps) :
    KeptBut ps s (t.takeQueryStats src tag c) ↔ KeptBut ps s t := by
  refine keptBut_iff ?_ hsub; clear hsub
  unfold State.takeQueryStats; (try dsimp only); repeat' split
  all_goals simp

@[simp] theorem keptBut_takeQuerySub {ps : List Part} {s t : State} (src : Nat) (q : Bool) (b : QueryBody) (hsub : [.span, .stats, .faults] ⊆ ps) :
    KeptBut ps s (t.takeQuerySub src q b) ↔ KeptBut ps s t := by
  refine keptBut_iff ?_ hsub; clear hsub
  unfold State.takeQuerySub; (try dsimp only); repeat' split
  all_goals simp

@[simp] theorem keptBut_takeQueryMsg {ps : List Part} {s t : State} (src : Nat) (b : QueryBody) (hsub : [.span, .stats, .faults] ⊆ ps) :
    KeptBut ps s (t.takeQueryMsg src b) ↔ KeptBut ps s t := by
  refine keptBut_iff ?_ hsub; clear hsub
  unfold State.takeQueryMsg; (try dsimp only)
  all_goals simp

@[simp] theorem keptBut_takeQueryClock {ps : List Part} {s t : State} (src : Nat) (e : Env) (b : QueryBody) (hsub : [.span, .stats, .faults] ⊆ ps) :
    KeptBut ps s (t.takeQueryClock src e b) ↔ KeptBut ps s t := by
  refine keptBut_iff ?_ hsub; clear hsub
  unfold State.takeQueryClock; (try dsimp only)
  all_goals simp

@[simp] theorem keptBut_putAck {ps : List Part} {s t : State} (d : Bool) (hsub : [.span] ⊆ ps) :
    KeptBut ps s (t.putAck d) ↔ KeptBut ps s t := by
  refine keptBut_iff ?_ hsub; clear hsub
  unfold State.putAck; (try dsimp only)
  all_goals simp

@[simp] theorem keptBut_frameMoment {ps : List Part} {s t : State} (e : Env) (hsub : [.now, .span] ⊆ ps) :
    KeptBut ps s (t.frameMoment e) ↔ KeptBut ps s t := by
  refine keptBut_iff ?_ hsub; clear hsub
  unfold State.frameMoment
  all_goals simp

@[simp] theorem keptBut_putOnAir {ps : List Part} {s t : State} (o : OnAir) (hsub : [.span, .queue] ⊆ ps) :
    KeptBut ps s (t.putOnAir o) ↔ KeptBut ps s t := by
  refine keptBut_iff ?_ hsub; clear hsub
  cases o <;> unfold State.putOnAir <;> simp

@[simp] theorem keptBut_gapEnd {ps : List Part} {s t : State} (e : Env) (r : Option (BitVec 12)) (hsub : [.now, .span, .faults, .stats, .queue] ⊆ ps) :
    KeptBut ps s (t.gapEnd e r) ↔ KeptBut ps s t := by
  refine keptBut_iff ?_ hsub; clear hsub
  unfold State.gapEnd; (try dsimp only); repeat' split
  all_goals simp

@[simp] theorem keptBut_noticeUnanswered {ps : List Part} {s t : State} (hsub : [.span, .stats] ⊆ ps) :
    KeptBut ps s (t.noticeUnanswered) ↔ KeptBut ps s t := by
  refine keptBut_iff ?_ hsub; clear hsub
  unfold State.noticeUnanswered; (try dsimp only); repeat' split
  all_goals simp

@[simp] theorem keptBut_noticeSlot {ps : List Part} {s t : State} (d : Bool) (hsub : [.span, .stats] ⊆ ps) :
    KeptBut ps s (t.noticeSlot d) ↔ KeptBut ps s t := by
  refine keptBut_iff ?_ hsub; clear hsub
  unfold State.noticeSlot; (try dsimp only); repeat' split
  all_goals simp

@[simp] theorem keptBut_sendFaulted {ps : List Part} {s t : State} (hsub : [.span, .stats, .queue] ⊆ ps) :
    KeptBut ps s (t.sendFaulted) ↔ KeptBut ps s t := by
  refine keptBut_iff ?_ hsub; clear hsub
  unfold State.sendFaulted; (try dsimp only); repeat' split
  all_goals simp

@[simp] theorem keptBut_takeQuery {ps : List Part} {s t : State} (h : Header) (e : Env) (k : Byte) (b : QueryBody) (hsub : [.span, .stats, .faults] ⊆ ps) :
    KeptBut ps s (t.takeQuery h e k b) ↔ KeptBut ps s t := by
  refine keptBut_iff ?_ hsub; clear hsub
  unfold State.takeQuery; repeat' split
  all_goals simp

@[simp] theorem keptBut_handOver {ps : List Part} {s t : State} (h : Header) (e : Env) (b : Body) (hsub : [.unit, .faults, .stats, .span, .subs, .intake, .store, .clock, .claims, .tracker, .charge, .queue, .parity] ⊆ ps) :
    KeptBut ps s (t.handOver h e b) ↔ KeptBut ps s t := by
  refine keptBut_iff ?_ hsub; clear hsub
  cases b <;> unfold State.handOver <;> simp

/-- A byte of the store gone bad changes nothing on chip but what the chip reads from store (R182). -/
@[simp] theorem keptBut_goesBad {ps : List Part} {s t : State} (x : Nat) (v : StoreValue)
    (hsub : [.subs, .store, .queue, .clock, .charge, .parity] ⊆ ps) :
    KeptBut ps s (t.goesBad x v) ↔ KeptBut ps s t := by
  refine keptBut_iff ?_ hsub; clear hsub
  unfold State.goesBad; split
  · cases v <;> simp [State.readsAs] <;> (repeat' split) <;> simp
  · simp

end Sys2Proof.Machine
end

