-- ==== Sys2Proof/Laws/Table.lean ====
section
/-! SUPPORT. Tables of the store: what a key reads as after a write, and the canonical form, kept by every write. -/

namespace Sys2Proof.Machine

variable {α : Type}

/-! ### Reading after a write -/

theorem tableFind_put_same (t : Table α) (k : Nat) (v : α) : tableFind (tablePut t k v) k = some v := by
  induction t with
  | nil => simp [tablePut, tableFind]
  | cons p t ih =>
    obtain ⟨j, a⟩ := p
    unfold tablePut
    split
    · simp [tableFind]
    · split
      · simp [tableFind]
      · simp_all [tableFind]

theorem tableFind_put_other (t : Table α) {k j : Nat} (v : α) (h : j ≠ k) :
    tableFind (tablePut t k v) j = tableFind t j := by
  induction t with
  | nil => simp [tablePut, tableFind, h]
  | cons p t ih =>
    obtain ⟨i, a⟩ := p
    unfold tablePut
    split
    · simp [tableFind, h]
    · split
      · subst_vars; simp [tableFind, h]
      · simp [tableFind, ih]

theorem tableAbove_find {k j : Nat} (t : Table α) (h : tableAbove k t = true) (hj : j ≤ k) : tableFind t j = none := by
  induction t with
  | nil => rfl
  | cons p t ih =>
    obtain ⟨i, a⟩ := p
    simp only [tableAbove, Bool.and_eq_true, decide_eq_true_eq] at h
    simp [tableFind, ih h.2, Nat.ne_of_lt (Nat.lt_of_le_of_lt hj h.1)]

theorem tableFind_erase_same (t : Table α) (k : Nat) (h : tableSorted t = true) :
    tableFind (tableErase t k) k = none := by
  induction t with
  | nil => rfl
  | cons p t ih =>
    obtain ⟨i, a⟩ := p
    simp only [tableSorted, Bool.and_eq_true] at h
    unfold tableErase
    split
    · subst_vars; exact tableAbove_find t h.1 (Nat.le_refl _)
    · simp_all [tableFind]

theorem tableFind_erase_other (t : Table α) {k j : Nat} (h : j ≠ k) :
    tableFind (tableErase t k) j = tableFind t j := by
  induction t with
  | nil => rfl
  | cons p t ih =>
    obtain ⟨i, a⟩ := p
    unfold tableErase
    split
    · subst_vars; simp [tableFind, h]
    · simp [tableFind, ih]

theorem tableGet_set_same [DecidableEq α] (t : Table α) (d v : α) (k : Nat) (h : tableSorted t = true) :
    tableGet (tableSet t d k v) d k = v := by
  unfold tableSet tableGet
  split
  · subst_vars; simp [tableFind_erase_same t k h]
  · simp [tableFind_put_same]

theorem tableGet_set_other [DecidableEq α] (t : Table α) (d v : α) {k j : Nat} (h : j ≠ k) :
    tableGet (tableSet t d k v) d j = tableGet t d j := by
  unfold tableSet tableGet
  split
  · rw [tableFind_erase_other t h]
  · rw [tableFind_put_other t v h]

/-! ### The canonical form is kept -/

theorem tableAbove_mono {j k : Nat} (t : Table α) (h : tableAbove k t = true) (hj : j ≤ k) : tableAbove j t = true := by
  induction t with
  | nil => rfl
  | cons p t ih =>
    obtain ⟨i, a⟩ := p
    simp only [tableAbove, Bool.and_eq_true, decide_eq_true_eq] at h ⊢
    exact ⟨by omega, ih h.2⟩

theorem tableAbove_put (t : Table α) {j k : Nat} (v : α) (h : tableAbove j t = true) (hk : j < k) :
    tableAbove j (tablePut t k v) = true := by
  induction t with
  | nil => simp [tablePut, tableAbove, hk]
  | cons p t ih =>
    obtain ⟨i, a⟩ := p
    simp only [tableAbove, Bool.and_eq_true, decide_eq_true_eq] at h
    unfold tablePut
    split
    · simp [tableAbove, h, hk]
    · split <;> simp_all [tableAbove]

theorem tableAbove_erase (t : Table α) {j : Nat} (k : Nat) (h : tableAbove j t = true) :
    tableAbove j (tableErase t k) = true := by
  induction t with
  | nil => rfl
  | cons p t ih =>
    obtain ⟨i, a⟩ := p
    simp only [tableAbove, Bool.and_eq_true, decide_eq_true_eq] at h
    unfold tableErase
    split <;> simp_all [tableAbove]

theorem tableSorted_put (t : Table α) (k : Nat) (v : α) (h : tableSorted t = true) :
    tableSorted (tablePut t k v) = true := by
  induction t with
  | nil => simp [tablePut, tableSorted, tableAbove]
  | cons p t ih =>
    obtain ⟨i, a⟩ := p
    simp only [tableSorted, Bool.and_eq_true] at h
    unfold tablePut
    split
    · rename_i hlt
      simp only [tableSorted, tableAbove, Bool.and_eq_true, decide_eq_true_eq]
      exact ⟨⟨hlt, tableAbove_mono t h.1 (Nat.le_of_lt hlt)⟩, h.1, h.2⟩
    · split
      · subst_vars; simp [tableSorted, h]
      · simp only [tableSorted, Bool.and_eq_true]
        exact ⟨tableAbove_put t v h.1 (by omega), ih h.2⟩

theorem tableSorted_erase (t : Table α) (k : Nat) (h : tableSorted t = true) : tableSorted (tableErase t k) = true := by
  induction t with
  | nil => rfl
  | cons p t ih =>
    obtain ⟨i, a⟩ := p
    simp only [tableSorted, Bool.and_eq_true] at h
    unfold tableErase
    split
    · exact h.2
    · simp only [tableSorted, Bool.and_eq_true]
      exact ⟨tableAbove_erase t k h.1, ih h.2⟩

theorem mem_tablePut {t : Table α} {k : Nat} {v : α} {p : Nat × α} (h : p ∈ tablePut t k v) : p = (k, v) ∨ p ∈ t := by
  induction t with
  | nil => simpa [tablePut] using h
  | cons q t ih =>
    obtain ⟨i, a⟩ := q
    unfold tablePut at h
    split at h
    · simpa using h
    · split at h
      · rcases List.mem_cons.1 h with h | h <;> simp_all
      · rcases List.mem_cons.1 h with h | h
        · exact .inr (by simp [h])
        · rcases ih h with h | h
          · exact .inl h
          · exact .inr (by simp [h])

theorem mem_tableErase {t : Table α} {k : Nat} {p : Nat × α} (h : p ∈ tableErase t k) : p ∈ t := by
  induction t with
  | nil => simp [tableErase] at h
  | cons q t ih =>
    obtain ⟨i, a⟩ := q
    unfold tableErase at h
    split at h
    · simp [h]
    · rcases List.mem_cons.1 h with h | h
      · simp [h]
      · simp [ih h]

theorem tableWf_set [DecidableEq α] (t : Table α) (d v : α) (k : Nat) (h : tableWf d t = true) :
    tableWf d (tableSet t d k v) = true := by
  simp only [tableWf, Bool.and_eq_true, List.all_eq_true, decide_eq_true_eq] at h ⊢
  unfold tableSet
  split
  · exact ⟨tableSorted_erase t k h.1, fun p hp => h.2 p (mem_tableErase hp)⟩
  · rename_i hv
    refine ⟨tableSorted_put t k v h.1, fun p hp => ?_⟩
    rcases mem_tablePut hp with hp | hp
    · subst hp; exact hv
    · exact h.2 p hp

/-! ### Lengths -/

theorem length_tablePut_found (t : Table α) (k : Nat) (v : α) (h : tableSorted t = true)
    (hf : (tableFind t k).isSome = true) : (tablePut t k v).length = t.length := by
  induction t with
  | nil => simp [tableFind] at hf
  | cons p t ih =>
    obtain ⟨i, a⟩ := p
    simp only [tableSorted, Bool.and_eq_true] at h
    unfold tablePut
    split
    · rename_i hlt
      simp [tableFind, Nat.ne_of_lt hlt, tableAbove_find t h.1 (Nat.le_of_lt hlt)] at hf
    · split
      · simp
      · rename_i hne
        simp only [tableFind, if_neg hne] at hf
        simp [ih h.2 hf]

theorem length_tablePut_absent (t : Table α) (k : Nat) (v : α) (hf : tableFind t k = none) :
    (tablePut t k v).length = t.length + 1 := by
  induction t with
  | nil => simp [tablePut]
  | cons p t ih =>
    obtain ⟨i, a⟩ := p
    unfold tablePut
    split
    · simp
    · split
      · subst_vars; simp [tableFind] at hf
      · rename_i hne
        simp only [tableFind, if_neg hne] at hf
        simp [ih hf]

theorem length_tableErase_found (t : Table α) (k : Nat) (hf : (tableFind t k).isSome = true) :
    (tableErase t k).length + 1 = t.length := by
  induction t with
  | nil => simp [tableFind] at hf
  | cons p t ih =>
    obtain ⟨i, a⟩ := p
    unfold tableErase
    split
    · simp
    · rename_i hne
      simp only [tableFind, if_neg hne] at hf
      simp [ih hf]

end Sys2Proof.Machine
end

