-- ==== Sys2Proof/Laws/Ops.lean ====
section
/-! SUPPORT. What each shared operation does to the part it changes, said once. What it leaves is in Laws/Kept. -/

namespace Sys2Proof.Machine

/-! ### The bytes of bad parity (R182)

Noting them changes the faults and the statistics alone; writing places again changes the parity bits too. -/

@[simp] theorem State.noteParity_pending (s : State) (l : List Nat) : (s.noteParity l).pending = s.pending :=
  (by simp : KeptBut [.faults, .stats] s (s.noteParity l)) .pending (by simp)
@[simp] theorem State.noteParity_now (s : State) (l : List Nat) : (s.noteParity l).now = s.now :=
  (by simp : KeptBut [.faults, .stats] s (s.noteParity l)) .now (by simp)
@[simp] theorem State.noteParity_unit (s : State) (l : List Nat) : (s.noteParity l).unit = s.unit :=
  (by simp : KeptBut [.faults, .stats] s (s.noteParity l)) .unit (by simp)
@[simp] theorem State.noteParity_span (s : State) (l : List Nat) : (s.noteParity l).span = s.span :=
  (by simp : KeptBut [.faults, .stats] s (s.noteParity l)) .span (by simp)
@[simp] theorem State.noteParity_subs (s : State) (l : List Nat) : (s.noteParity l).subs = s.subs :=
  (by simp : KeptBut [.faults, .stats] s (s.noteParity l)) .subs (by simp)
@[simp] theorem State.noteParity_intake (s : State) (l : List Nat) : (s.noteParity l).intake = s.intake :=
  (by simp : KeptBut [.faults, .stats] s (s.noteParity l)) .intake (by simp)
@[simp] theorem State.noteParity_store (s : State) (l : List Nat) : (s.noteParity l).store = s.store :=
  (by simp : KeptBut [.faults, .stats] s (s.noteParity l)) .store (by simp)
@[simp] theorem State.noteParity_clock (s : State) (l : List Nat) : (s.noteParity l).clock = s.clock :=
  (by simp : KeptBut [.faults, .stats] s (s.noteParity l)) .clock (by simp)
@[simp] theorem State.noteParity_claims (s : State) (l : List Nat) : (s.noteParity l).claims = s.claims :=
  (by simp : KeptBut [.faults, .stats] s (s.noteParity l)) .claims (by simp)
@[simp] theorem State.noteParity_tracker (s : State) (l : List Nat) : (s.noteParity l).tracker = s.tracker :=
  (by simp : KeptBut [.faults, .stats] s (s.noteParity l)) .tracker (by simp)
@[simp] theorem State.noteParity_charge (s : State) (l : List Nat) : (s.noteParity l).charge = s.charge :=
  (by simp : KeptBut [.faults, .stats] s (s.noteParity l)) .charge (by simp)
@[simp] theorem State.noteParity_queue (s : State) (l : List Nat) : (s.noteParity l).queue = s.queue :=
  (by simp : KeptBut [.faults, .stats] s (s.noteParity l)) .queue (by simp)
@[simp] theorem State.noteParity_parity (s : State) (l : List Nat) : (s.noteParity l).parity = s.parity :=
  (by simp : KeptBut [.faults, .stats] s (s.noteParity l)) .parity (by simp)

@[simp] theorem State.noteReads_pending (s : State) (l : List StorePlace) : (s.noteReads l).pending = s.pending :=
  (by simp : KeptBut [.faults, .stats] s (s.noteReads l)) .pending (by simp)
@[simp] theorem State.noteReads_now (s : State) (l : List StorePlace) : (s.noteReads l).now = s.now :=
  (by simp : KeptBut [.faults, .stats] s (s.noteReads l)) .now (by simp)
@[simp] theorem State.noteReads_unit (s : State) (l : List StorePlace) : (s.noteReads l).unit = s.unit :=
  (by simp : KeptBut [.faults, .stats] s (s.noteReads l)) .unit (by simp)
@[simp] theorem State.noteReads_span (s : State) (l : List StorePlace) : (s.noteReads l).span = s.span :=
  (by simp : KeptBut [.faults, .stats] s (s.noteReads l)) .span (by simp)
@[simp] theorem State.noteReads_subs (s : State) (l : List StorePlace) : (s.noteReads l).subs = s.subs :=
  (by simp : KeptBut [.faults, .stats] s (s.noteReads l)) .subs (by simp)
@[simp] theorem State.noteReads_intake (s : State) (l : List StorePlace) : (s.noteReads l).intake = s.intake :=
  (by simp : KeptBut [.faults, .stats] s (s.noteReads l)) .intake (by simp)
@[simp] theorem State.noteReads_store (s : State) (l : List StorePlace) : (s.noteReads l).store = s.store :=
  (by simp : KeptBut [.faults, .stats] s (s.noteReads l)) .store (by simp)
@[simp] theorem State.noteReads_clock (s : State) (l : List StorePlace) : (s.noteReads l).clock = s.clock :=
  (by simp : KeptBut [.faults, .stats] s (s.noteReads l)) .clock (by simp)
@[simp] theorem State.noteReads_claims (s : State) (l : List StorePlace) : (s.noteReads l).claims = s.claims :=
  (by simp : KeptBut [.faults, .stats] s (s.noteReads l)) .claims (by simp)
@[simp] theorem State.noteReads_tracker (s : State) (l : List StorePlace) : (s.noteReads l).tracker = s.tracker :=
  (by simp : KeptBut [.faults, .stats] s (s.noteReads l)) .tracker (by simp)
@[simp] theorem State.noteReads_charge (s : State) (l : List StorePlace) : (s.noteReads l).charge = s.charge :=
  (by simp : KeptBut [.faults, .stats] s (s.noteReads l)) .charge (by simp)
@[simp] theorem State.noteReads_queue (s : State) (l : List StorePlace) : (s.noteReads l).queue = s.queue :=
  (by simp : KeptBut [.faults, .stats] s (s.noteReads l)) .queue (by simp)
@[simp] theorem State.noteReads_parity (s : State) (l : List StorePlace) : (s.noteReads l).parity = s.parity :=
  (by simp : KeptBut [.faults, .stats] s (s.noteReads l)) .parity (by simp)

@[simp] theorem State.rewrite_pending (s : State) (l : List StorePlace) : (s.rewrite l).pending = s.pending :=
  (by simp : KeptBut [.faults, .stats, .parity] s (s.rewrite l)) .pending (by simp)
@[simp] theorem State.rewrite_now (s : State) (l : List StorePlace) : (s.rewrite l).now = s.now :=
  (by simp : KeptBut [.faults, .stats, .parity] s (s.rewrite l)) .now (by simp)
@[simp] theorem State.rewrite_unit (s : State) (l : List StorePlace) : (s.rewrite l).unit = s.unit :=
  (by simp : KeptBut [.faults, .stats, .parity] s (s.rewrite l)) .unit (by simp)
@[simp] theorem State.rewrite_span (s : State) (l : List StorePlace) : (s.rewrite l).span = s.span :=
  (by simp : KeptBut [.faults, .stats, .parity] s (s.rewrite l)) .span (by simp)
@[simp] theorem State.rewrite_subs (s : State) (l : List StorePlace) : (s.rewrite l).subs = s.subs :=
  (by simp : KeptBut [.faults, .stats, .parity] s (s.rewrite l)) .subs (by simp)
@[simp] theorem State.rewrite_intake (s : State) (l : List StorePlace) : (s.rewrite l).intake = s.intake :=
  (by simp : KeptBut [.faults, .stats, .parity] s (s.rewrite l)) .intake (by simp)
@[simp] theorem State.rewrite_store (s : State) (l : List StorePlace) : (s.rewrite l).store = s.store :=
  (by simp : KeptBut [.faults, .stats, .parity] s (s.rewrite l)) .store (by simp)
@[simp] theorem State.rewrite_clock (s : State) (l : List StorePlace) : (s.rewrite l).clock = s.clock :=
  (by simp : KeptBut [.faults, .stats, .parity] s (s.rewrite l)) .clock (by simp)
@[simp] theorem State.rewrite_claims (s : State) (l : List StorePlace) : (s.rewrite l).claims = s.claims :=
  (by simp : KeptBut [.faults, .stats, .parity] s (s.rewrite l)) .claims (by simp)
@[simp] theorem State.rewrite_tracker (s : State) (l : List StorePlace) : (s.rewrite l).tracker = s.tracker :=
  (by simp : KeptBut [.faults, .stats, .parity] s (s.rewrite l)) .tracker (by simp)
@[simp] theorem State.rewrite_charge (s : State) (l : List StorePlace) : (s.rewrite l).charge = s.charge :=
  (by simp : KeptBut [.faults, .stats, .parity] s (s.rewrite l)) .charge (by simp)
@[simp] theorem State.rewrite_queue (s : State) (l : List StorePlace) : (s.rewrite l).queue = s.queue :=
  (by simp : KeptBut [.faults, .stats, .parity] s (s.rewrite l)) .queue (by simp)

@[simp] theorem State.relink_pending (s : State) (l : List (Option Nat)) : (s.relink l).pending = s.pending :=
  (by simp : KeptBut [.faults, .stats, .parity] s (s.relink l)) .pending (by simp)
@[simp] theorem State.relink_now (s : State) (l : List (Option Nat)) : (s.relink l).now = s.now :=
  (by simp : KeptBut [.faults, .stats, .parity] s (s.relink l)) .now (by simp)
@[simp] theorem State.relink_unit (s : State) (l : List (Option Nat)) : (s.relink l).unit = s.unit :=
  (by simp : KeptBut [.faults, .stats, .parity] s (s.relink l)) .unit (by simp)
@[simp] theorem State.relink_span (s : State) (l : List (Option Nat)) : (s.relink l).span = s.span :=
  (by simp : KeptBut [.faults, .stats, .parity] s (s.relink l)) .span (by simp)
@[simp] theorem State.relink_subs (s : State) (l : List (Option Nat)) : (s.relink l).subs = s.subs :=
  (by simp : KeptBut [.faults, .stats, .parity] s (s.relink l)) .subs (by simp)
@[simp] theorem State.relink_intake (s : State) (l : List (Option Nat)) : (s.relink l).intake = s.intake :=
  (by simp : KeptBut [.faults, .stats, .parity] s (s.relink l)) .intake (by simp)
@[simp] theorem State.relink_store (s : State) (l : List (Option Nat)) : (s.relink l).store = s.store :=
  (by simp : KeptBut [.faults, .stats, .parity] s (s.relink l)) .store (by simp)
@[simp] theorem State.relink_clock (s : State) (l : List (Option Nat)) : (s.relink l).clock = s.clock :=
  (by simp : KeptBut [.faults, .stats, .parity] s (s.relink l)) .clock (by simp)
@[simp] theorem State.relink_claims (s : State) (l : List (Option Nat)) : (s.relink l).claims = s.claims :=
  (by simp : KeptBut [.faults, .stats, .parity] s (s.relink l)) .claims (by simp)
@[simp] theorem State.relink_tracker (s : State) (l : List (Option Nat)) : (s.relink l).tracker = s.tracker :=
  (by simp : KeptBut [.faults, .stats, .parity] s (s.relink l)) .tracker (by simp)
@[simp] theorem State.relink_charge (s : State) (l : List (Option Nat)) : (s.relink l).charge = s.charge :=
  (by simp : KeptBut [.faults, .stats, .parity] s (s.relink l)) .charge (by simp)
@[simp] theorem State.relink_queue (s : State) (l : List (Option Nat)) : (s.relink l).queue = s.queue :=
  (by simp : KeptBut [.faults, .stats, .parity] s (s.relink l)) .queue (by simp)

/-- Places written again carry good parity; what stands bad elsewhere stays (R182). -/
theorem State.rewrite_parity (s : State) (l : List StorePlace) :
    (s.rewrite l).parity = s.parity.filter (fun b => decide (b.2 ∉ l)) := rfl

theorem State.noteParity_nil (s : State) : s.noteParity [] = s := rfl

/-- Noting bytes read with bad parity changes the faults and the statistics alone (R182). -/
theorem State.noteParity_eq (s : State) (l : List Nat) :
    s.noteParity l = { s with faults := (s.noteParity l).faults, stats := (s.noteParity l).stats } := by
  have k1 := s.noteParity_pending l; have k2 := s.noteParity_now l; have k3 := s.noteParity_unit l
  have k4 := s.noteParity_span l; have k5 := s.noteParity_subs l; have k6 := s.noteParity_intake l
  have k7 := s.noteParity_store l; have k8 := s.noteParity_clock l; have k9 := s.noteParity_claims l
  have k10 := s.noteParity_tracker l; have k11 := s.noteParity_charge l; have k12 := s.noteParity_queue l
  have k13 := s.noteParity_parity l
  generalize s.noteParity l = g at *
  cases g; cases s; simp_all

/-- A read of places none of which holds a byte of bad parity changes nothing (R182). -/
theorem State.noteReads_good (s : State) (l : List StorePlace) (h : ∀ b ∈ s.parity, b.2 ∉ l) : s.noteReads l = s := by
  have : s.badBytes l = [] := by
    unfold State.badBytes
    rw [List.map_eq_nil_iff, List.filter_eq_nil_iff]
    intro b hb; simp [h b hb]
  rw [State.noteReads, this]; rfl

/-- In a store with no byte of bad parity, a write of places changes no more than what it writes (R182). -/
theorem State.rewrite_good (s : State) (l : List StorePlace) (h : s.parity = []) : s.rewrite l = s := by
  rw [State.rewrite, State.noteReads_good s _ (by simp [h])]
  simp only [h, List.filter_nil]
  cases s; simp_all [State.withParity]

/-! ### Records read back -/

@[simp] theorem State.msg_putMsg_same (s : State) (k : Nat) (m : Msg) : (s.putMsg k m).msg k = some m := by
  simp [State.putMsg, State.msg, tableFind_put_same]

@[simp] theorem State.msg_putMsg_other (s : State) {j k : Nat} (m : Msg) (h : j ≠ k) :
    (s.putMsg k m).msg j = s.msg j := by
  simp [State.putMsg, State.msg, tableFind_put_other _ m h]

theorem State.sub_putSub_same (s : State) (i : Nat) (r : Subscriber) (h : tableSorted s.subs = true) :
    (s.putSub i r).sub i = r := by
  simp [State.putSub, State.sub, tableGet_set_same _ _ r i h]

theorem State.sub_putSub_other (s : State) {i j : Nat} (r : Subscriber) (h : j ≠ i) :
    (s.putSub i r).sub j = s.sub j := by
  simp [State.putSub, State.sub, tableGet_set_other _ _ r h]

@[simp] theorem State.putDue_store (s : State) (k : Nat) (l : List Nat) :
    (s.putDue k l).store = { s.store with due := tableSet s.store.due [] k l } := by
  unfold State.putDue; dsimp only; split <;> simp

theorem State.dueList_putDue_same (s : State) (k : Nat) (l : List Nat) (h : tableSorted s.store.due = true) :
    (s.putDue k l).dueList k = l := by
  simp [State.dueList, tableGet_set_same _ _ l k h]

theorem State.dueList_putDue_other (s : State) {j k : Nat} (l : List Nat) (h : j ≠ k) :
    (s.putDue k l).dueList j = s.dueList j := by
  simp [State.dueList, tableGet_set_other _ _ l h]

/-- A message record read depends on the store alone. -/
theorem State.msg_congr {s t : State} (h : t.store = s.store) (k : Nat) : t.msg k = s.msg k := by
  simp [State.msg, h]

/-- A subscriber record read depends on the subscriber records alone. -/
theorem State.sub_congr {s t : State} (h : t.subs = s.subs) (i : Nat) : t.sub i = s.sub i := by
  simp [State.sub, h]

/-! ### Counters -/

theorem statKey_injective (c d : Stat) (h : statKey c = statKey d) : c = d := by
  cases c <;> cases d <;> first | rfl | (exact absurd h (by decide))

theorem State.stat_bump_same (s : State) (c : Stat) (h : tableSorted s.stats = true) :
    (s.bump c).stat c = min Config.max16 (s.stat c + 1) := tableGet_set_same _ _ _ _ h

theorem State.stat_bump_other (s : State) {c d : Stat} (h : d ≠ c) : (s.bump c).stat d = s.stat d :=
  tableGet_set_other _ _ _ (fun k => h (statKey_injective d c k))

/-- A latching event (R180): the cause, its latch count and the line timer. -/
theorem State.latch_eq (s : State) (c : Cause) :
    (s.latch c).faults = { s.faults with causes := causesLatch s.faults.causes c, lineEnd := some (s.now + 200) } ∧
      (s.latch c).stats = (s.bump (latchStat c)).stats := ⟨rfl, rfl⟩

/-! ### Queues -/

theorem State.addNotice_room (s : State) (d : Nat) (b : NoticeBody) (h : s.span.notices.length < 32) :
    s.addNotice d b = s.withSpan { s.span with notices := s.span.notices ++ [⟨d, b, 0⟩] } := by
  simp [State.addNotice, Config.noticeCap, h]

theorem State.addNotice_full (s : State) (d : Nat) (b : NoticeBody) (h : ¬ s.span.notices.length < 32) :
    s.addNotice d b =
      (s.withSpan { s.span with notices := dropOldest s.span.onAir s.span.notices ++ [⟨d, b, 0⟩] }).bump
        .noticesDropped := by
  simp [State.addNotice, Config.noticeCap, h]

theorem State.enqueue_records (s : State) (b : RecordBody) :
    (s.enqueue b).queue.records = s.queue.records ++ [⟨s.queue.nextNumber, b⟩] := by
  unfold State.enqueue; dsimp only; split <;> simp

theorem State.enqueue_nextNumber (s : State) (b : RecordBody) :
    (s.enqueue b).queue.nextNumber = (s.queue.nextNumber + 1) % 16777216 := by
  unfold State.enqueue; dsimp only; split <;> simp

theorem State.enqueue_period (s : State) (b : RecordBody) :
    (s.enqueue b).queue.period = s.queue.period ∧ (s.enqueue b).queue.selector = s.queue.selector ∧
      (s.enqueue b).queue.sweep = s.queue.sweep := by
  unfold State.enqueue; dsimp only; split <;> simp

theorem State.enqueue_head (s : State) (b : RecordBody) (h : s.queue.records ≠ []) :
    (s.enqueue b).queue.send = s.queue.send ∧ (s.enqueue b).queue.stallFrom = s.queue.stallFrom := by
  unfold State.enqueue; dsimp only; split
  · simp_all
  · simp

/-! ### The free pool -/

theorem poolCount_cold : poolCount MsgStore.cold.pool = 8192 := rfl

theorem poolCount_pop (p : Pool) (slot : Nat) (h : poolFront p = some slot) :
    poolCount (poolPop p) + 1 = poolCount p := by
  unfold poolFront at h; unfold poolPop poolCount
  split at h
  · simp_all; omega
  · split at h
    · simp_all; omega
    · simp at h

theorem poolCount_push (p : Pool) (slot : Nat) (h : slot < 8192) :
    poolCount (poolPush p slot) = poolCount p + 1 := by
  unfold poolPush poolCount Config.slotCount
  split
  · rename_i hc; simp_all; omega
  · simp; omega

/-! ### Wake events and the outstanding table -/

/-- A wake event changes nothing but the model's own mark of a test of R103 outstanding. -/
theorem State.wake_eq (s : State) :
    s.wake = s ∨ (s.claims.slot = .waiting ∧ s.wake = s.withClaims { s.claims with startTest := true }) := by
  unfold State.wake; split
  · rename_i h; exact .inr ⟨h, rfl⟩
  · exact .inl rfl

theorem State.wake_claims (s : State) :
    s.wake.claims.openWin = s.claims.openWin ∧ s.wake.claims.closedWin = s.claims.closedWin ∧
      s.wake.claims.fill = s.claims.fill ∧ s.wake.claims.arbiter = s.claims.arbiter ∧
      s.wake.claims.blocked = s.claims.blocked ∧ s.wake.claims.slot = s.claims.slot := by
  rcases s.wake_eq with h | ⟨_, h⟩ <;> rw [h] <;> exact ⟨rfl, rfl, rfl, rfl, rfl, rfl⟩

theorem State.wake_tracker (s : State) : s.wake.tracker = s.tracker :=
  (by simp : KeptBut [.claims] s s.wake) .tracker (by simp)

theorem State.removeEntry_tracker (s : State) (slot : Nat) (h : (s.entryOf slot).isSome = true) :
    (s.removeEntry slot).tracker =
      { s.tracker with
        entries := s.tracker.entries.filter (fun e => e.slot ≠ slot),
        deadlines := s.tracker.deadlines.filter (fun d => d ≠ slot) } := by
  unfold State.removeEntry
  split
  · simp_all
  · rw [State.wake_tracker, State.withTracker_tracker]

theorem State.removeEntry_absent (s : State) (slot : Nat) (h : s.entryOf slot = none) : s.removeEntry slot = s := by
  unfold State.removeEntry; simp [h]

/-! ### The feed arbiter's choices -/

/-- A choice of the arbiter writes its state and the feed the walk stays with, and nothing else. -/
theorem State.chooseFeed_eq (s : State) (c : Composition) :
    s.chooseFeed c = s.withClaims { s.claims with
      arbiter := (arbiterChoose s.unit.setup.feeds (liveFeeds s.store.cursors) s.claims.arbiter).2,
      slot := .composing { c with
        chosen := (arbiterChoose s.unit.setup.feeds (liveFeeds s.store.cursors) s.claims.arbiter).1 } } := rfl

/-- A cursor's move makes a choice exactly when the walk stays with that feed and its cursor is END (R107). -/
theorem State.cursorMoved_chooses (s : State) (f : Feed) (c : Composition) (h : s.claims.slot = .composing c)
    (hc : c.chosen = some f) (he : feedGet s.store.cursors f = none) : s.cursorMoved f = s.chooseFeed c := by
  simp [State.cursorMoved, h, hc, he]

theorem State.cursorMoved_idle (s : State) (f : Feed)
    (h : ∀ c, s.claims.slot = .composing c → ¬ (c.chosen = some f ∧ feedGet s.store.cursors f = none)) :
    s.cursorMoved f = s := by
  unfold State.cursorMoved
  split
  · next c hc => exact if_neg (h c hc)
  · rfl

/-! ### The map of the store -/

theorem placesAt_subscriber (index k : Nat) (hi : index < 32768) (hk : k < 64) :
    placesAt (subscriberAt index + k) = [.subscriber index] := by
  have h1 : subscriberAt index + k < messageAt 0 := by unfold subscriberAt messageAt; omega
  have h2 : (subscriberAt index + k) / 64 = index := by unfold subscriberAt; omega
  simp only [placesAt, if_pos h1, h2]

theorem placesAt_message (slot k : Nat) (hs : slot < 8192) (hk : k < 64) :
    placesAt (messageAt slot + k) = [.message slot] := by
  have h1 : ¬ messageAt slot + k < messageAt 0 := by unfold messageAt; omega
  have h2 : messageAt slot + k < recordAt 0 := by unfold messageAt recordAt; omega
  have h3 : (messageAt slot + k - messageAt 0) / 320 = slot := by unfold messageAt; omega
  have h4 : messageAt slot + k < characterAt slot 0 := by unfold characterAt; omega
  simp only [placesAt, if_neg h1, if_pos h2, h3, if_pos h4]

/-- The characters stand in the last 256 bytes of the 320 of a message record (R185). -/
theorem placesAt_character (slot place : Nat) (hs : slot < 8192) (hp : place < 256) :
    placesAt (characterAt slot place) = [.character slot place] := by
  have h1 : ¬ characterAt slot place < messageAt 0 := by unfold characterAt messageAt; omega
  have h2 : characterAt slot place < recordAt 0 := by unfold characterAt messageAt recordAt; omega
  have h3 : (characterAt slot place - messageAt 0) / 320 = slot := by unfold characterAt messageAt; omega
  have h4 : ¬ characterAt slot place < characterAt slot 0 := by unfold characterAt; omega
  have h5 : characterAt slot place - characterAt slot 0 = place := by unfold characterAt; omega
  simp only [placesAt, if_neg h1, if_pos h2, h3, if_neg h4, h5]

theorem placesAt_record (entry k : Nat) (he : entry < 1024) (hk : k < 48) :
    placesAt (recordAt entry + k) = [.record entry] := by
  have h1 : ¬ recordAt entry + k < messageAt 0 := by unfold recordAt messageAt; omega
  have h2 : ¬ recordAt entry + k < recordAt 0 := by unfold recordAt; omega
  have h3 : recordAt entry + k < dueAt 0 := by unfold recordAt dueAt; omega
  have h4 : (recordAt entry + k - recordAt 0) / 48 = entry := by unfold recordAt; omega
  simp only [placesAt, if_neg h1, if_neg h2, if_pos h3, h4]

theorem placesAt_dueList (key k : Nat) (hq : key < 225) (hk : k < 4) :
    placesAt (dueAt key + k) = [.dueList key] := by
  have h1 : ¬ dueAt key + k < messageAt 0 := by unfold dueAt messageAt; omega
  have h2 : ¬ dueAt key + k < recordAt 0 := by unfold dueAt recordAt; omega
  have h3 : ¬ dueAt key + k < dueAt 0 := by unfold dueAt; omega
  have h4 : dueAt key + k < controlAt := by unfold dueAt controlAt; omega
  have h5 : (dueAt key + k - dueAt 0) / 4 = key := by unfold dueAt; omega
  simp only [placesAt, if_neg h1, if_neg h2, if_neg h3, if_pos h4, h5]

/-- Every address of the control area may belong to any of its items (R185, log 26), and none above the map to any. -/
theorem placesAt_control (k : Nat) (hk : k < 256) : placesAt (controlAt + k) = controlPlaces := by
  have h1 : ¬ controlAt + k < messageAt 0 := by unfold controlAt messageAt; omega
  have h2 : ¬ controlAt + k < recordAt 0 := by unfold controlAt recordAt; omega
  have h3 : ¬ controlAt + k < dueAt 0 := by unfold controlAt dueAt; omega
  have h4 : ¬ controlAt + k < controlAt := by omega
  have h5 : controlAt + k < Config.storeBytes := by unfold controlAt Config.storeBytes; omega
  simp only [placesAt, if_neg h1, if_neg h2, if_neg h3, if_neg h4, if_pos h5]

theorem placesAt_above (address : Nat) (h : Config.storeBytes ≤ address) : placesAt address = [] := by
  unfold Config.storeBytes at h
  have h1 : ¬ address < messageAt 0 := by unfold messageAt; omega
  have h2 : ¬ address < recordAt 0 := by unfold recordAt; omega
  have h3 : ¬ address < dueAt 0 := by unfold dueAt; omega
  have h4 : ¬ address < controlAt := by unfold controlAt; omega
  have h5 : ¬ address < Config.storeBytes := by unfold Config.storeBytes; omega
  simp only [placesAt, if_neg h1, if_neg h2, if_neg h3, if_neg h4, if_neg h5]

end Sys2Proof.Machine
end

