-- ==== Sys2Proof/Laws/Span.lean ====
section
/-! SUPPORT. The receiver: what becomes of a frame heard, in each of the cases of R8 to R13, and what it keeps. -/

namespace Sys2Proof.Machine

/-- With no test of R103 outstanding, the end of a change starts no composition. -/
theorem State.testStart_idle (s : State) (h : s.claims.startTest = false) : s.testStart = s := by
  simp [State.testStart, h]

/-- A taken frame is handed to its owner, and R103 tests at the end (R12). -/
theorem State.hear_taken (s : State) (h : Header) (e : Env) (b : Body) (act : State → State)
    (ht : s.takes h b = true) : s.hear h e b act = (act (s.atFrame h e)).testStart := by
  simp only [State.takes, Bool.and_eq_true, Bool.or_eq_true, decide_eq_true_eq, Bool.not_eq_true'] at ht
  obtain ⟨⟨⟨⟨h1, h2⟩, h3⟩, h4⟩, h5⟩ := ht
  have h3' : (s.toSelf h || decide (h.dst = 31)) = true := by
    rcases h3 with h3 | h3 <;> simp [h3]
  unfold State.hear State.atFrame
  simp only [h1, h2, h3', h4, h5]
  rfl

/-- In a state in which the Span Port does not receive, a frame is not taken and not counted (R13). -/
theorem State.hear_deaf (s : State) (h : Header) (e : Env) (b : Body) (act : State → State)
    (hl : s.listening = false) : s.hear h e b act = s.frameMoment e := by
  simp [State.hear, hl]

theorem State.hearWire_deaf (s : State) (e : Env) (f : WireFrame) (hl : s.listening = false) :
    s.hearWire e f = s.frameMoment e := by
  simp [State.hearWire, hl]

/-! ### The state in which a taken frame is met -/

@[simp] theorem State.atFrame_pending (s : State) (h : Header) (e : Env) : (s.atFrame h e).pending = s.pending := rfl
@[simp] theorem State.atFrame_unit (s : State) (h : Header) (e : Env) : (s.atFrame h e).unit = s.unit := rfl
@[simp] theorem State.atFrame_subs (s : State) (h : Header) (e : Env) : (s.atFrame h e).subs = s.subs := rfl
@[simp] theorem State.atFrame_intake (s : State) (h : Header) (e : Env) : (s.atFrame h e).intake = s.intake := rfl
@[simp] theorem State.atFrame_store (s : State) (h : Header) (e : Env) : (s.atFrame h e).store = s.store := rfl
@[simp] theorem State.atFrame_clock (s : State) (h : Header) (e : Env) : (s.atFrame h e).clock = s.clock := rfl
@[simp] theorem State.atFrame_claims (s : State) (h : Header) (e : Env) : (s.atFrame h e).claims = s.claims := rfl
@[simp] theorem State.atFrame_tracker (s : State) (h : Header) (e : Env) : (s.atFrame h e).tracker = s.tracker := rfl
@[simp] theorem State.atFrame_charge (s : State) (h : Header) (e : Env) : (s.atFrame h e).charge = s.charge := rfl
@[simp] theorem State.atFrame_queue (s : State) (h : Header) (e : Env) : (s.atFrame h e).queue = s.queue := rfl

@[simp] theorem State.atFrame_parity (s : State) (h : Header) (e : Env) : (s.atFrame h e).parity = s.parity := rfl

theorem keptBut_atFrame {s : State} (h : Header) (e : Env) : KeptBut [.now, .span] s (s.atFrame h e) := by
  unfold State.atFrame; simp

theorem keptBut_hear {ps : List Part} {s t : State} (h : Header) (e : Env) (b : Body) (act : State → State)
    (ha : ∀ u, KeptBut ps u (act u)) (hsub : [.now, .span, .faults, .stats, .claims, .store] ⊆ ps) :
    KeptBut ps s (t.hear h e b act) ↔ KeptBut ps s t := by
  refine keptBut_iff (qs := ps) ?_ (fun _ h => h)
  have hn : Part.now ∈ ps := hsub (by simp)
  have hp : Part.span ∈ ps := hsub (by simp)
  have hf : Part.faults ∈ ps := hsub (by simp)
  have hs : Part.stats ∈ ps := hsub (by simp)
  have hc : Part.claims ∈ ps := hsub (by simp)
  have ht : Part.store ∈ ps := hsub (by simp)
  unfold State.hear; dsimp only; repeat' split
  all_goals simp [hn, hp, hf, hs, hc, ht]
  exact (KeptBut.trans (by simp [hn, hp]) (ha _))

theorem keptBut_hearWire {ps : List Part} {s t : State} (e : Env) (f : WireFrame)
    (hsub : [.now, .unit, .faults, .stats, .span, .subs, .intake, .store, .clock, .claims, .tracker, .charge, .queue,
      .parity] ⊆ ps) : KeptBut ps s (t.hearWire e f) ↔ KeptBut ps s t := by
  refine keptBut_iff ?_ hsub; clear hsub
  unfold State.hearWire; dsimp only; repeat' split
  all_goals first
    | (rw [keptBut_hear _ _ _ _ (fun u => by simp) (by simp)]; simp)
    | simp

/-- No command's meaning touches the queue of commands. -/
theorem exec_pending (c : Instr) (s t : State) (h : exec c s = .next t) : t.pending = s.pending := by
  have key : ∀ u : State,
      KeptBut [.now, .unit, .faults, .stats, .span, .subs, .intake, .store, .clock, .claims, .tracker, .charge, .queue,
        .parity] s u → u.pending = s.pending := fun u k => k .pending (by simp)
  cases c <;> injection h with h <;> subst h <;> refine key _ ?_
  all_goals first
    | (rw [keptBut_hearWire _ _ (by simp)]; simp; done)
    | (rw [keptBut_hear _ _ _ _ (fun u => by simp) (by simp)]; simp; done)
    | (simp; done)

/-! ### Frames sent -/

/-- A source that wins the key is on the medium with its frame as it stands then (R5). -/
theorem State.frameOnAir_putOnAir (s : State) (o : OnAir) :
    (s.putOnAir o).span.onAir = some o ∧ (s.putOnAir o).frameOnAir = s.frameFor o := by
  cases o <;> exact ⟨rfl, rfl⟩

/-- The frame on the medium depends on the Span Port's state alone. -/
theorem State.frameOnAir_congr {s t : State} (h : t.span = s.span) : t.frameOnAir = s.frameOnAir := by
  simp [State.frameOnAir, h]

end Sys2Proof.Machine
end

