-- ==== Sys2Proof/Tests/Slice0.lean ====
section
/-! SUPPORT. Tests: well-formedness refuses each ill-formed operand; the manual's worked numbers; and for every
statement a state and operands that meet its hypotheses. -/

namespace Sys2Proof.Tests

open Sys2Proof Sys2Proof.Machine

-- One test after another: a test that waits for the kernel holds a thread of its own.
set_option Elab.async false

/-! ### A site, and small states -/

/-- Station 9, collector 3, provisioning 4, maintenance 5, controllers 1 and 2, the windows of section 2.1. -/
def site : Setup :=
  { own := 9, collector := 3, provisioning := 4, maintenance := 5, controllers := [1, 2],
    windows := [⟨1200000, 10000⟩, ⟨3450000, 6000⟩, ⟨0, 0⟩, ⟨9000000, 16768⟩],
    ackSpan := 2, maxSends := 4, lifetime := 10, freshSpan := 4,
    feeds := ⟨⟨.high, 4⟩, ⟨.high, 2⟩, ⟨.low, 4⟩⟩, holdMark := 64, highMark := 960, discardTime := 20,
    neighbours := List.replicate 16 0xFFFF }

/-- In SERVICE, receiving. -/
def up : State :=
  { State.reset with
    unit := { State.reset.unit with engine := .service, setup := site },
    span := { SpanPort.cold with waitingGap := false } }

def at_ (moment : Nat) : Env := ⟨moment, false⟩

/-- A header of a class from a station to the engine. -/
def from_ (cls : BitVec 3) (src : BitVec 5) : Header := ⟨cls, 0, src, 9⟩

/-- A prepaid two-way subscriber of home window 40 (section 11.5). -/
def pager : Subscriber :=
  { Subscriber.vacant with
    state := .active, airTag := 77, homeWindow := 40, pager := .text, twoWay := true, maxParts := 8, pendingLimit := 4,
    balance := 1000, threshold := 600, armed := true, tariffClass := 2 }

/-- An URGENT text message of 70 characters for it, of sequence 5 (sections 8.7 and 11.5). -/
def page : Msg :=
  { state := .queued, subIndex := 0, number := 1200000, seq := 5, priority := .urgent, kind := .text,
    flags := ⟨false, false, false⟩, origin := 20, tag := 700, accepted := 10000, counts := [32, 32, 6], chars := [],
    aired := 0, held := 0, sends := 0, zones := none, link := none, feed := some .urgent, recallMark := false,
    basis := ⟨150, 40, 50, .prepaid, 2⟩, hold := 488, settlement := none }

/-- The subscriber and the message in slot 0, held for and pending. -/
def holding (r : Subscriber) (m : Msg) : State :=
  { up with
    subs := [(0, { r with pendingList := [0] })],
    store := { up.store with
      msgs := [(0, m)], pool := ⟨[], 1⟩, due := match m.feed with
        | some f => [(dueKey r.homeWindow f, [0])]
        | none => [] } }

/-- A SET tariff, class 2 at base 150, rate 40 and 50 percent (section 8.2). -/
def tariff : Tariffs := { set := true, loaded := 0xFF, marks := 0, active := [(2, ⟨150, 40, 50⟩)], staged := [] }

/-- The clock TRACKING at (300, 12), begun at 4,800 with serial 2 (section 5.7's example). -/
def tracking (begun : Begun) : Clock :=
  { state := if begun = .mark then .tracking else .coasting, current := some ⟨⟨300, 12⟩, 4800, begun⟩,
    misses := if begun = .mark then 0 else 1, candidate := none, held := none,
    latest := some (⟨300, 14⟩, ⟨[], 0⟩), serial := 2 }

def ticking (begun : Begun) : State := { up with clock := tracking begun }

/-- A MARK of 16 capacities of 60 cells, every zone in service. -/
def markOf (lap : BitVec 16) (window : Byte) : MarkBody := ⟨lap, window, List.replicate 16 60, 0xFFFF⟩

def marking : Header := ⟨0, 0, 1, 31⟩

/-- The next state of a command; the state itself where there is none. -/
def after (c : Instr) (s : State) : State :=
  match exec c s with
  | .next t => t
  | _ => s

/-- The setup block of the site (section 10.1), less its sum. -/
def blockBody : List Byte :=
  [9, 3, 4, 5, 2, 1, 2] ++
  (bytesOf 3 1200000 ++ bytesOf 2 10000 ++ bytesOf 3 3450000 ++ bytesOf 2 6000 ++ bytesOf 3 0 ++ bytesOf 2 0 ++
    bytesOf 3 9000000 ++ bytesOf 2 16768) ++
  [2, 4, 10, 4, 0, 4, 0, 2, 1, 4] ++ bytesOf 2 64 ++ bytesOf 2 960 ++ [20] ++ List.replicate 84 0xFF

/-- The setup block with its sum. -/
def block : List Byte := blockBody ++ bytesOf 2 ((blockBody.map BitVec.toNat).sum % 65536)

/-- The setup memory answers with the block. -/
def memory : SetupLine := .answers (block.map some)

/-- A frame of a header and a kind code with no body, whole and with a good check. -/
def bare (h : Header) (kind : BitVec 7) : WireFrame := ⟨h, kind, 0, [], checkOf h kind.toNat 0 [], false⟩

/-! ### Well-formedness refuses -/

theorem test_wf_refuses_short_mark : (Instr.mark marking (at_ 0) ⟨300, 13, [60], 0⟩).wf = false := by decide
theorem test_wf_refuses_long_report :
    (Instr.report marking (at_ 0) ⟨300, 13, List.replicate 256 ⟨9, 0, 0⟩⟩).wf = false := by decide +kernel
theorem test_wf_refuses_long_claim :
    (Instr.claim (from_ 1 12) (at_ 0) ⟨300, 13, 0, List.replicate 256 ⟨0, 0, 2, 1, 1⟩⟩).wf = false := by
  decide +kernel
theorem test_wf_refuses_long_deposit :
    (Instr.deposit (from_ 4 20) (at_ 0) ⟨0, 0, 0, 0, List.replicate 2040 0⟩).wf = false := by decide +kernel
theorem test_wf_refuses_long_setup :
    (Instr.setupReadComplete (at_ 0) (.answers (List.replicate 129 none)) 9).wf = false := by decide +kernel
theorem test_wf_refuses_body_past_length :
    (Instr.frameBad (at_ 0) ⟨from_ 4 20, 37, 0, [1], 0, true⟩).wf = false := by decide
theorem test_wf_refuses_good_frame_as_bad : (Instr.frameBad (at_ 0) (bare (from_ 6 5) 50)).wf = false := by
  decide +kernel
theorem test_wf_refuses_good_header_as_malformed :
    (Instr.headerMalformed (at_ 0) (bare (from_ 6 5) 50)).wf = false := by decide +kernel
theorem test_wf_refuses_bad_check_as_not_taken :
    (Instr.frameNotTaken (at_ 0) ⟨from_ 6 5, 50, 0, [], 0, false⟩).wf = false := by decide +kernel
theorem test_wf_refuses_unknown_kind_as_misdirected :
    (Instr.misdirectedFrame (at_ 0) (bare (from_ 6 5) 100)).wf = false := by decide +kernel
theorem test_wf_refuses_unknown_kind_as_malformed_body :
    (Instr.malformedFrameBody (at_ 0) (bare (from_ 6 5) 100)).wf = false := by decide +kernel
theorem test_wf_refuses_station_31_as_origin : (Instr.discardTimerExpiry 31 0).wf = false := by decide
theorem test_wf_refuses_set_as_other_operation :
    (Instr.loadOtherOperation (from_ 4 4) (at_ 0) 1
      ⟨0, 0, 0, 0, 0, 0, 0, 1, 1, 0, 0, 1, 0, 0⟩).wf = false := by decide

/-! ### The manual's worked numbers -/

/-- The check value of R2's generator and preset over the bytes of 123456789. -/
theorem test_check_value :
    crcOf (([0x31, 0x32, 0x33, 0x34, 0x35, 0x36, 0x37, 0x38, 0x39] : List Byte).flatMap
      (fun b => bitsOf 8 b.toNat)) = 0x29B1 := by decide +kernel

/-- Section 1.1: an empty frame is 59 bits, of which 40 are checked; a MARK's check covers 37 bytes more. -/
theorem test_checked_bits :
    (checkedBits marking 50 0 []).length = 40 ∧ (bodyBytes (.mark (markOf 1 2))).length = 37 := by decide +kernel

/-- Section 2.1's example. -/
theorem test_decode_windows :
    up.decode 3452017 = some 12017 ∧ up.decode 9016767 = some 32767 ∧ up.decode 1210000 = none ∧
      up.decode 0 = none := by decide

/-- The setup block read gives the site's settings; R174's checks accept it with straps 9 and refuse straps 8. -/
theorem test_setup_block :
    (setupOf block).windows = site.windows ∧ (setupOf block).feeds = site.feeds ∧
      (setupOf (List.replicate 128 0)).neighbours = (List.range 16).map (fun z => BitVec.ofNat 16 (2 ^ z)) ∧
      setupOk block 9 = true ∧ setupOk block 8 = false := by decide +kernel

/-- Section 8.2's table. -/
theorem test_charge_table :
    (chargeFor ⟨150, 40, 50, .prepaid, 2⟩ .urgent 38, chargeFor ⟨150, 40, 50, .prepaid, 2⟩ .urgent 70,
      chargeFor ⟨150, 40, 50, .prepaid, 2⟩ .routine 6, chargeFor ⟨150, 40, 50, .prepaid, 2⟩ .urgent 1) =
      (368, 488, 165, 230) := by decide

/-- R146: the largest total. -/
theorem test_charge_largest : chargeFor ⟨65535, 4095, 255, .prepaid, 0⟩ .urgent 256 = 465245 := by decide

/-- R96's examples. -/
theorem test_send_cost :
    sendCost page = 28 ∧ sendCost { page with held := 5 } = 13 ∧
      sendCost { page with kind := .numeric, counts := [14] } = 5 ∧
      sendCost { page with counts := [32, 32, 32, 32, 32, 32, 32, 32] } = 97 := by decide

/-- R46's example. -/
theorem test_shaping :
    (shapeFor .text 3 ⟨.urgent, .text, 70, List.replicate 70 65⟩).counts = [32, 32, 6] ∧
      (shapeFor .text 2 ⟨.urgent, .text, 70, List.replicate 70 65⟩).counts = [32, 32] ∧
      (shapeFor .text 2 ⟨.urgent, .text, 70, List.replicate 70 65⟩).flags.truncated = true := by decide +kernel

/-- Section 7.4's ladder. -/
theorem test_ladder :
    notBeforeAt 10033 43 40 1 = 10105 ∧ notBeforeAt 10108 43 40 2 = 10255 ∧ notBeforeAt 10258 43 40 3 = 10480 := by
  decide

/-- R131's example, in both orders. -/
theorem test_last_heard :
    offerHeard (some (offerHeard (some (offerHeard (some ⟨3, 9, 10012⟩) ⟨7, 10, 10031⟩)) ⟨6, 12, 10031⟩))
        ⟨5, 12, 10031⟩ = ⟨5, 12, 10031⟩ ∧
      offerHeard (some (offerHeard (some (offerHeard (some ⟨3, 9, 10012⟩) ⟨5, 12, 10031⟩)) ⟨6, 12, 10031⟩))
        ⟨7, 10, 10031⟩ = ⟨5, 12, 10031⟩ := by decide

/-- Section 8.4's example of a capped credit. -/
theorem test_credit_capped :
    creditResult { pager with balance := 16700000, held := 488 } 100000 =
      ⟨.capped, 76727, 23273, 16776727, 488⟩ := by decide

/-- R83's example: the window two ahead of (812, 74). -/
theorem test_two_ahead : airNext (airNext ⟨812, 74⟩) = ⟨813, 1⟩ := by decide

/-- Section 6.6's example: with URGENT's cursor at END, RETRY is granted a run of 2. -/
theorem test_arbiter :
    (arbiterChoose site.feeds ⟨false, true, true⟩ ⟨⟨3, 0, 0⟩, some .urgent, none⟩) =
      (some .retry, ⟨⟨0, 2, 0⟩, some .retry, none⟩) := by decide

/-! ### One step each -/

/-- Section 5.7's example: the mark at 7,130 is 70 ms early, the one at 7,205 begins window (300, 13) at serial 3. -/
theorem test_mark_early_and_good :
    (after (.mark marking (at_ 7130) (markOf 300 13)) (ticking .mark)).clock = tracking .mark ∧
      ((after (.mark marking (at_ 7205) (markOf 300 13)) (ticking .mark)).clock.current,
        (after (.mark marking (at_ 7205) (markOf 300 13)) (ticking .mark)).clock.serial) =
        (some ⟨⟨300, 13⟩, 7205, .mark⟩, 3) := by decide +kernel

/-- Section 5.7: a window coasted on the grid, and the loss at the fourth miss. -/
theorem test_coast_and_loss :
    (after (.coastExpiry (at_ 7260)) (ticking .mark)).clock.current = some ⟨⟨300, 13⟩, 7200, .coast⟩ ∧
      (after (.coastExpiry (at_ 7260))
        { ticking .coast with clock := { tracking .coast with misses := 3 } }).clock.state = .search := by
  decide +kernel

/-- Section 5.7: an out-of-step mark is held, and one consistent with it jumps. -/
theorem test_jump :
    (after (.mark marking (at_ 7203) (markOf 0 1)) { ticking .mark with
      clock := { tracking .mark with held := some ⟨⟨0, 0⟩, 4802, ⟨[], 0⟩⟩ } }).clock.current =
      some ⟨⟨0, 1⟩, 7203, .mark⟩ := by decide +kernel

/-- Section 11.5: the deposit of 70 characters holds 488, lowers the balance to 512 and makes a LOW BALANCE record. -/
theorem test_deposit_holds :
    ((after (.deposit (from_ 4 20) (at_ 0) ⟨700, 1200000, 1, 2, List.replicate 70 65⟩)
      { up with subs := [(0, pager)], charge := tariff }).sub 0).balance = 512 ∧
      (after (.deposit (from_ 4 20) (at_ 0) ⟨700, 1200000, 1, 2, List.replicate 70 65⟩)
        { up with subs := [(0, pager)], charge := tariff }).queue.records = [⟨0, .lowBalance 1200000 512 600⟩] := by
  decide +kernel

/-- R55: a recall of a message taken to a CLAIMED state is NOTED, of a QUEUED one CANCELLED, with sends 0 and no charge.
-/
theorem test_recall :
    (after (.recall (from_ 4 20) (at_ 0) ⟨1200000, 5⟩)
      (holding pager { page with state := .claimed .queued, link := some ⟨1, 0, 0⟩ })).span.notices =
      [⟨20, .recallAnswer 1200000 5 .noted 0, 0⟩] ∧
      ((after (.recall (from_ 4 20) (at_ 0) ⟨1200000, 5⟩) (holding { pager with balance := 512, held := 488 } page)).sub
        0).balance = 1000 := by decide +kernel

/-- Section 11.5: a HEARD of parts 1 and 3 of an AWAITING message leaves it with those parts held. -/
theorem test_heard_parts :
    ((after (.heard (from_ 2 17) (at_ 0) ⟨77, 5, 5, 7, 10⟩)
      { holding pager { page with state := .awaiting, aired := 7, sends := 1, feed := none } with
        tracker := ⟨[⟨77, 5, 0, .waiting 10033⟩], [], [0]⟩ }).msg 0).map Msg.held = some 5 := by decide +kernel

/-- R166: a close of another period is accepted and flips the selector; the same one again changes nothing. -/
theorem test_period_close :
    (after (.periodClose (from_ 4 3) (at_ 0) 21) up).queue.selector = .b1 ∧
      (after (.periodClose (from_ 4 3) (at_ 0) 21)
        { up with queue := { up.queue with period := some 21 } }).queue.sweep = none := by decide +kernel

/-- Section 11.7, step 4: the sweep's total at index 3. -/
theorem test_period_sweep :
    (after (.periodSweepStep (at_ 0)) { up with
      subs := [(3, { pager with plan := .postpaid, bank0 := ⟨5, 220, 6, 2100⟩ })],
      queue := { up.queue with selector := .b1, period := some 21, sweep := some ⟨3, 0, false⟩ } }).queue.records =
      [⟨0, .periodTotal 1200003 21 .closed false ⟨5, 220, 6, 2100⟩⟩] := by decide +kernel

/-- Section 10.5: a latched cause asserts the line; after a clear the timer alone holds it. -/
theorem test_fault_line :
    (up.latch .clockLost).faultLine = true ∧ (up.latch .clockLost).clearStats.faultLine = true ∧
      ((up.latch .clockLost).clearStats.advance 200).faultLine = false := by decide +kernel

/-- R163, R164: the record not taken waits 500 ms, and the stall timer latches at 60 s. -/
theorem test_record_waits :
    (after (.recordAckSlot (at_ 10) false) { up with
      queue := { up.queue with records := [⟨0, .periodDone 1 0⟩], send := some .onAir, stallFrom := some 0 },
      span := { up.span with onAir := some .record } }).queue.send = some (.gap 510) ∧
      (after .stallTimerExpiry { up with
        queue := { up.queue with records := [⟨0, .periodDone 1 0⟩], stallFrom := some 0 } }).faults.causes.recordsStalled =
        true := by decide +kernel

/-- Section 6.8's rule: of two items the first is carried and the second spilled, back to QUEUED. -/
theorem test_report_prefix :
    ((after (.report marking (at_ 0) ⟨300, 14, [⟨9, 0, 1⟩]⟩)
      { ticking .mark with
        subs := [(0, { pager with twoWay := false, pendingList := [0, 1] })],
        store := { up.store with
          msgs := [(0, { page with state := .claimed .queued, link := some ⟨4, 0, 0⟩ }),
                   (1, { page with seq := 6, state := .claimed .queued, link := some ⟨4, 0, 1⟩ })],
          pool := ⟨[], 2⟩, due := [(120, [0, 1])] },
        claims := { ClaimBuilder.cold with openWin := some ⟨⟨300, 14⟩, 4, ⟨List.replicate 16 60, 0xFFFF⟩, 1,
          [⟨0, [⟨0, 7, 0xFFFF, 28, false⟩, ⟨1, 7, 0xFFFF, 28, false⟩], false⟩]⟩, slot := .sent } }).store.msgs.map
            (fun x => (x.1, x.2.state))) = [(1, .queued)] := by decide +kernel

/-- R107: the chosen feed's cursor reaches END because its message leaves the list, and the other feed of the level is
chosen at once, with its run. -/
theorem test_cursor_end_chooses_at_once :
    let t := after (.recall (from_ 4 20) (at_ 0) ⟨1200000, 5⟩)
      { holding pager page with
        clock := tracking .mark,
        store := { (holding pager page).store with cursors := ⟨some 0, some 7, none⟩ },
        claims := { ClaimBuilder.cold with
          openWin := some ⟨⟨300, 40⟩, 4, ⟨List.replicate 16 60, 0xFFFF⟩, 0, []⟩,
          arbiter := ⟨⟨3, 0, 0⟩, some .urgent, none⟩,
          slot := .composing ⟨[], zonesZero, Arbiter.clear, 0, some .urgent⟩ } }
    (t.claims.arbiter, t.store.cursors.urgent) = (⟨⟨0, 2, 0⟩, some .retry, none⟩, none) := by decide +kernel

/-- R6: a send fault on a CLAIM leaves it prepared. -/
theorem test_send_fault_keeps_claim :
    (after (.sendFault (at_ 0)) { up with span := { up.span with onAir := some (.claim false) } }).span.onAir = none := by
  decide +kernel

/-- R186: the transfer of the setup read ends with the 128th byte, the only one not acknowledged, and the line is not
driven in SERVICE. -/
theorem test_setup_transfer :
    State.reset.setupLine.length = 5 + 128 ∧ State.reset.setupLine.getLast? = some (.read false) ∧
      State.reset.setupLine.count (.read false) = 1 ∧ up.setupLine = [] := by decide +kernel

/-- R95, R84, R121: a rejected block leaves the clock's counters at 0, the others as they were, and no claim. -/
theorem test_rejected_block :
    let t := after (.setupReadComplete (at_ 0) .silent 9) { State.reset with
      stats := [(statKey .framesBad, 2), (statKey .clockLosses, 3)],
      claims := { ClaimBuilder.cold with slot := .sent } }
    (t.unit.engine, t.stat .clockLosses, t.stat .framesBad, t.stat .latchSetupBad, t.claims.slot) =
      (.halted, 0, 2, 1, .idle) := by decide +kernel

/-- R185: the places at the edges of the map, the characters in the last 256 bytes of a message record. -/
theorem test_store_map :
    [0, 2097151, 2097152, 2097215, 2097216, 2097471, 4718591, 4718592, 4767743, 4767744, 4768643, 4768900].map
      placesAt =
      [[.subscriber 0], [.subscriber 32767], [.message 0], [.message 0], [.character 0 0], [.character 0 255],
        [.character 8191 255], [.record 0], [.record 1023], [.dueList 0], [.dueList 224], []] ∧
      placesAt 4768644 = controlPlaces ∧ placesAt 4768899 = controlPlaces := by decide

/-- R22, R182: a byte of a record that goes bad is used as read, and its read latches STORE_PARITY, counts STORE_ERRORS
and gives the last error address. -/
theorem test_bad_byte_read :
    let t := after (.querySubscriber (from_ 6 5) (at_ 0) ⟨1, 0, 1200000⟩)
      (State.goesBad { up with subs := [(0, pager)] } 7 (.subscriber 0 { pager with balance := 1001 }))
    (t.faults.causes.storeParity, t.stat .storeErrors, t.faults.lastError) = (true, 1, some 7) ∧
      t.span.notices = [⟨5, .queryAnswer 1 .subscriber (.subscriber 0 { pager with balance := 1001 } []), 0⟩] := by
  decide +kernel

/-- R182: a record written again carries good parity from then on; one only read stays bad. -/
theorem test_bad_byte_rewritten :
    let s := State.goesBad { up with subs := [(0, pager)] } 7 (.subscriber 0 pager)
    let credited := after (.credit (from_ 4 3) (at_ 0) ⟨1200000, 5, 9⟩) s
    let queried := after (.querySubscriber (from_ 6 5) (at_ 0) ⟨1, 0, 1200000⟩) s
    (credited.parity, credited.stat .storeErrors) = ([], 1) ∧
      (after (.querySubscriber (from_ 6 5) (at_ 0) ⟨1, 0, 1200000⟩) credited).stat .storeErrors = 1 ∧
      (after (.querySubscriber (from_ 6 5) (at_ 0) ⟨1, 0, 1200000⟩) queried).stat .storeErrors = 2 := by decide +kernel

/-- R160, R182: a record that reads badly is sent as read, and the address kept is its byte's in the ring. -/
theorem test_bad_record_sent_as_read :
    let s : State := { up with queue := { up.queue with
      head := 2, records := [⟨0, .periodDone 1 0⟩], send := some .ready } }
    let t := after (.idleGapEnd (at_ 0) none) (s.goesBad 4718690 (.record 0 ⟨0, .periodDone 2 0⟩))
    (t.frameOnAir).map WireFrame.body = some [0, 0, 0, 2, 0, 0] ∧ t.faults.lastError = some 4718690 := by
  decide +kernel

/-- R54: the search of a RECALL ends after 16 slots; a 17th, met where the list reads badly, is not found. -/
theorem test_recall_search_ends :
    let s (n : Nat) : State := { holding pager page with
      subs := [(0, { pager with pendingList := List.range' 1 n ++ [0] })] }
    (after (.recall (from_ 4 20) (at_ 0) ⟨1200000, 5⟩) (s 16)).span.notices =
        [⟨20, .recallAnswer 1200000 5 .notFound 0, 0⟩] ∧
      (after (.recall (from_ 4 20) (at_ 0) ⟨1200000, 5⟩) (s 15)).span.notices.head? =
        some ⟨20, .recallAnswer 1200000 5 .cancelled 0, 0⟩ := by decide +kernel

/-- R101: at the loss the sent claim is voided: counted once, its item QUEUED again and not counted as spilled. -/
theorem test_loss_voids_claim :
    let m : Msg := { page with state := .claimed .queued, link := some ⟨4, 0, 0⟩ }
    let s : State := { holding pager m with
      clock := { tracking .coast with misses := 3 },
      claims := { ClaimBuilder.cold with
        openWin := some ⟨⟨300, 14⟩, 4, ⟨List.replicate 16 60, 0xFFFF⟩, 1, [⟨0, [⟨0, 7, 0xFFFF, 28, false⟩], false⟩]⟩,
        slot := .sent } }
    let t := after (.coastExpiry (at_ 7260)) s
    (t.stat .claimsVoided, t.stat .itemsSpilled, (t.msg 0).map Msg.state, t.claims.openWin, t.claims.slot) =
      (1, 0, some .queued, none, .idle) := by decide +kernel

/-! ### Witnesses: each statement's hypotheses are met together, clause by clause, at the edges of their ranges -/

/-- The engine state changed, as the RECOVERY sweep or INIT has it. -/
def inState (s : State) (e : EngineState) (p : Option RecoveryPos) : State :=
  { s with unit := { s.unit with engine := e, recovery := p } }

def text : Header := from_ 4 20
def deposit70 : DepositBody := ⟨700, 1200000, 1, 2, List.replicate 70 65⟩

theorem witness_FrameOnWireActsAsItsCommand :
    (bodyFits (.mark (markOf 300 13)) = true ∧
      commandOf marking (at_ 0) (.mark (markOf 300 13)) = some (.mark marking (at_ 0) (markOf 300 13))) ∧
    (∀ b ∈ [Body.report ⟨0, 0, List.replicate 255 ⟨9, 0, 1⟩⟩, .claim ⟨0, 0, 0, List.replicate 255 ⟨0, 0, 2, 1, 1⟩⟩,
        .deposit ⟨0, 0, 0, 0, List.replicate 2039 0⟩, .query 0 ⟨1, 1, 0⟩, .restart],
      bodyFits b = true ∧ (commandOf text (at_ 0) b).isSome = true) := by decide +kernel

theorem witness_FramesIgnoredUnlessReceiving :
    State.reset.listening = false ∧ ({ up with span := SpanPort.cold } : State).listening = false ∧
      (inState up .recovery (some ⟨0, []⟩)).listening = false ∧
      commandOf marking (at_ 0) (.mark (markOf 300 13)) = some (.mark marking (at_ 0) (markOf 300 13)) := by decide

/-- A frame of an empty body with the wrong check. -/
def wrongCheck : WireFrame := { bare (from_ 6 5) 50 with check := checkOf (from_ 6 5) 50 0 [] + 1 }

theorem witness_FailedFramesDropped :
    up.listening = true ∧
      (({ wrongCheck with len := 2048 } : WireFrame).len.toNat ≤ 2048 ∧
        frameShort { wrongCheck with len := 2048 } = true) ∧
      (frameShort wrongCheck = false ∧ checkFails wrongCheck = true) ∧
      2048 < ({ wrongCheck with len := 2049 } : WireFrame).len.toNat ∧
      (∀ h ∈ [from_ 7 5, from_ 6 31], frameShort (bare h 50) = false ∧ checkFails (bare h 50) = false ∧
        ((bare h 50).head.cls = 7 ∨ (bare h 50).head.src = 31)) := by decide +kernel

theorem witness_UnwantedFramesDropped :
    up.listening = true ∧
      (∀ f ∈ [bare ⟨6, 0, 5, 8⟩ 50, bare (from_ 6 5) 100, bare (from_ 6 6) 50, bare marking 1], f.sound = true) ∧
      ¬ ((8 : BitVec 5).toNat = up.unit.setup.own ∨ (8 : BitVec 5) = 31) ∧ kindOfCode 100 = none ∧
      (kindOfCode 50 = some .restart ∧ up.sourceListed .restart 6 = false) ∧
      (kindOfCode 1 = some .mark ∧ up.sourceListed .mark 1 = true ∧ readBody .mark [] = none) := by decide +kernel

theorem witness_ResetAssertedThenReleased :
    10 ≤ 10 ∧ 9 < 10 ∧ ({ up with unit := { up.unit with resetLow := true } } : State).unit.resetLow = true ∧
      up.unit.resetLow = false := by decide

theorem witness_SetupReadAcceptsOrHalts :
    State.reset.unit.engine = .init ∧ State.reset.unit.initPhase = .setupRead ∧ State.reset.unit.resetLow = false ∧
      setupOk (setupBytes memory) 9 = true ∧ setupOk (setupBytes memory) 8 = false ∧
      setupOk (setupBytes .silent) 9 = false ∧
      ¬ (up.unit.engine = .init ∧ up.unit.initPhase = .setupRead ∧ up.unit.resetLow = false) ∧
      block.length = 128 := by decide +kernel

theorem witness_SetupBlockAcceptedExactly : block.length = 128 ∧ setupOk block 9 = true := by decide +kernel

/-- The setup block accepted, the INIT sweep under way. -/
def sweeping : State := { State.reset with unit := { State.reset.unit with initPhase := .sweep, setup := site } }

theorem witness_InitSweepEntersService :
    sweeping.unit.engine = .init ∧ sweeping.unit.initPhase = .sweep ∧ sweeping.unit.resetLow = false := by decide

theorem witness_RestartEntersRecovery :
    up.takes (from_ 6 5) .restart = true ∧ up.takes ⟨6, 0, 5, 31⟩ .restart = true := by decide

/-- The RECOVERY sweep at a position over one message. -/
def recovering (m : Msg) (p : RecoveryPos) : State := inState (holding pager m) .recovery (some p)

theorem witness_RecoverySweepTreatsMessage :
    (∀ m : Msg,
      ((recovering m ⟨0, []⟩).unit.engine = .recovery ∧ (recovering m ⟨0, []⟩).unit.resetLow = false ∧
        (recovering m ⟨0, []⟩).unit.recovery = some ⟨0, []⟩ ∧ tableSorted (recovering m ⟨0, []⟩).subs = true ∧
        (recovering m ⟨0, []⟩).recoveryReaches ⟨0, []⟩ 0 ⟨1, []⟩ ∧ (recovering m ⟨0, []⟩).msg 0 = some m) ∧
      (recovering m ⟨1, [0]⟩).recoveryReaches ⟨1, [0]⟩ 0 ⟨1, []⟩) ∧
    (site.maxSends = 4 ∧ (3 < 4 ∧ ¬ 4 < 4) ∧
      tableSorted (recovering { page with state := .awaiting, feed := none, sends := 3 } ⟨0, []⟩).store.due = true) :=
  ⟨fun _ => ⟨⟨rfl, rfl, rfl, rfl,
    Or.inr ⟨rfl, 0, [], Nat.le_refl 0, (by decide : SubState.active ≠ .vacant), rfl, fun _ h1 h2 => absurd h2 (Nat.not_lt.mpr h1), rfl⟩, rfl⟩,
    Or.inl ⟨[], rfl, rfl⟩⟩, by decide +kernel⟩

theorem witness_RecoverySweepCompleteEntersService :
    ((inState up .recovery (some ⟨0, []⟩)).unit.engine = .recovery ∧
      (inState up .recovery (some ⟨0, []⟩)).unit.resetLow = false ∧
      (inState up .recovery (some ⟨0, []⟩)).unit.recovery = some ⟨0, []⟩ ∧
      tableSorted (inState up .recovery (some ⟨0, []⟩)).subs = true ∧
      (inState up .recovery (some ⟨0, []⟩)).recoveryOver ⟨0, []⟩) ∧
    (¬ (recovering page ⟨0, []⟩).recoveryOver ⟨0, []⟩ ∧ ¬ (recovering page ⟨1, [0]⟩).recoveryOver ⟨1, [0]⟩) :=
  ⟨⟨rfl, rfl, rfl, rfl, rfl, fun _ _ => Or.inl rfl⟩,
    fun h => by
      have := h.2 0 (Nat.le_refl 0)
      revert this
      decide +kernel,
    fun h => by
      have := h.1
      revert this
      decide⟩

theorem witness_FaultLineAndTimer :
    up.unit.resetLow = false ∧ (up.latch .clockLost).unit.resetLow = false ∧
      (up.latch .clockLost).faults.lineEnd = some 200 ∧ tableSorted up.stats = true ∧ tableSorted up.parity = true ∧
      4768899 < 4768900 ∧
      (∀ x ∈ [(0, StoreValue.subscriber 0 pager), (2097471, .character 0 255 65), (4768899, .serial 0)],
        up.placeOf x.2 ∈ placesAt x.1) := by decide +kernel

/-- A record at the head, READY. -/
def recordReady : State :=
  { up with queue := { up.queue with records := [⟨0, .periodDone 1 0⟩], send := some .ready, stallFrom := some 0 } }

theorem witness_IdleGapSendsLowestClass :
    recordReady.unit.engine = .service ∧ recordReady.unit.resetLow = false ∧
      ({ recordReady with span := { recordReady.span with onAir := some .notice } } : State).span.onAir.isSome = true ∧
      (up.span.onAir = none ∧ up.sources = []) ∧
      (recordReady.span.onAir = none ∧ recordReady.sources = [(.record, 5, 0)] ∧
        5 * 512 + 0 * 32 + recordReady.unit.setup.own ≤ (2569 : BitVec 12).toNat ∧
        (2568 : BitVec 12).toNat < 5 * 512 + 0 * 32 + recordReady.unit.setup.own) ∧
      (let notice : Notice := ⟨20, .recallAnswer 1200000 5 .noted 0, 0⟩
       let window : WindowRec := ⟨⟨300, 40⟩, 4, ⟨List.replicate 16 60, 0xFFFF⟩, 1, []⟩
       let items : List Item := [⟨0, 7, 0xFFFF, 28, true⟩]
       let s : State := { holding pager page with
         span := { up.span with notices := [notice] }, queue := recordReady.queue,
         claims := { ClaimBuilder.cold with
           openWin := some window, slot := .prepared ⟨items, zonesZero, Arbiter.clear, 0, none⟩ } }
       s.unit.setup.own ≤ 30 ∧
         (s.frameFor .notice).map (fun f => f.body.length) = some 6 ∧
         (s.frameFor .record).map (fun f => f.body.length) = some 6 ∧
         (s.frameFor (.claim true)).map (fun f => f.body.length) = some 13) := by decide +kernel

/-- A notice on the medium, of an attempt count. -/
def noticing (attempts : Nat) : State :=
  { up with span := { up.span with
      onAir := some .notice, notices := [⟨20, .recallAnswer 1200000 5 .noted 0, attempts⟩] } }

theorem witness_NoticeSlotAnswersHead :
    ∀ k ∈ [1, 2], (noticing k).unit.engine = .service ∧ (noticing k).unit.resetLow = false ∧
      (noticing k).span.onAir = some .notice ∧
      (noticing k).span.notices = [⟨20, .recallAnswer 1200000 5 .noted 0, k⟩] ∧ (k < 2 ∨ 2 ≤ k) := by decide

/-- R16: with 32 notices held the oldest not on the medium goes: the head, or the second while the head is being sent.
-/
theorem test_notice_overflow :
    let n (k : Nat) : Notice := ⟨20, .recallAnswer 1200000 k .noted 0, 0⟩
    let s (o : Option OnAir) : State := { up with span := { up.span with
      onAir := o, notices := (List.range 32).map n } }
    32 ≤ (s none).span.notices.length ∧
      ((s none).addNotice 20 (n 32).body).span.notices = (List.range' 1 32).map n ∧
      ((s (some .notice)).addNotice 20 (n 32).body).span.notices = n 0 :: (List.range' 2 31).map n ∧
      ((s none).addNotice 20 (n 32).body).stat .noticesDropped = 1 := by decide +kernel

/-- The head record on the medium. -/
def recordOnAir : State :=
  { recordReady with
    span := { up.span with onAir := some .record }, queue := { recordReady.queue with send := some .onAir } }

theorem witness_RecordHeadDepartsOrWaits :
    recordOnAir.unit.engine = .service ∧ recordOnAir.unit.resetLow = false ∧ recordOnAir.span.onAir = some .record ∧
      ({ recordReady with queue := { recordReady.queue with send := some (.gap 510) } } : State).queue.send =
        some (.gap 510) ∧
      recordReady.queue.stallFrom = some 0 := by decide

theorem witness_SendFaultCountsForItsSource :
    (∀ k ∈ [1, 2], (noticing k).span.onAir = some .notice ∧ (noticing k).unit.engine = .service) ∧
      recordOnAir.span.onAir = some .record ∧
      ∀ a : Bool, ({ up with span := { up.span with onAir := some (.claim a) } } : State).span.onAir =
        some (.claim a) := by decide

/-! Window Clock -/

/-- SEARCH with the candidate (300, 12) met at 0. -/
def searching : State := { up with clock := { Clock.cold with candidate := some ⟨⟨300, 12⟩, 0⟩ } }

theorem witness_SearchJudgesMarks :
    (∀ b ∈ [markOf 300 12, markOf 300 13, markOf 301 13], up.takes marking (.mark b) = true ∧
      searching.takes marking (.mark b) = true) ∧
    up.claims.startTest = false ∧ up.clock.state = .search ∧ up.clock.candidate = none ∧
    searching.claims.startTest = false ∧ searching.clock.state = .search ∧
    searching.clock.candidate = some ⟨⟨300, 12⟩, 0⟩ ∧ airNext ⟨300, 12⟩ = ⟨300, 13⟩ ∧
    (∀ t ∈ [2340, 2460], 0 + 2340 ≤ t ∧ t ≤ 0 + 2460) ∧
    (∀ t ∈ [2339, 2461], ¬ ((⟨300, 13⟩ : AirTime) = airNext ⟨300, 12⟩ ∧ 0 + 2340 ≤ t ∧ t ≤ 0 + 2460)) ∧
    (⟨301, 13⟩ : AirTime) ≠ ⟨300, 12⟩ ∧ (⟨301, 13⟩ : AirTime) ≠ airNext ⟨300, 12⟩ := by decide +kernel

/-- TRACKING with an out-of-step mark (0, 0) held since 4,802. -/
def jumping : State :=
  { ticking .mark with clock := { tracking .mark with held := some ⟨⟨0, 0⟩, 4802, ⟨[], 0⟩⟩ } }

theorem witness_MarkOutOfTurnBeginsNoWindow :
    (∀ k ∈ [Begun.mark, .coast], ∀ b ∈ [markOf 300 12, markOf 300 13, markOf 0 1],
      (ticking k).takes marking (.mark b) = true ∧ (ticking k).claims.startTest = false ∧
      (ticking k).clock.state ≠ .search ∧ (ticking k).clock.current = some ⟨⟨300, 12⟩, 4800, k⟩) ∧
    airNext ⟨300, 12⟩ = ⟨300, 13⟩ ∧ 7139 + 60 < 4800 + 2400 ∧ 4800 + 2460 < 7261 ∧
    (⟨0, 1⟩ : AirTime) ≠ ⟨300, 12⟩ ∧ (⟨0, 1⟩ : AirTime) ≠ airNext ⟨300, 12⟩ ∧ (ticking .mark).clock.held = none ∧
    (jumping.takes marking (.mark (markOf 0 1)) = true ∧ jumping.clock.held = some ⟨⟨0, 0⟩, 4802, ⟨[], 0⟩⟩ ∧
      ∀ t ∈ [7141, 7263], ¬ ((⟨0, 1⟩ : AirTime) = airNext ⟨0, 0⟩ ∧ 4802 + 2340 ≤ t ∧ t ≤ 4802 + 2460)) := by
  decide +kernel

/-- A window record OPEN for the air time two ahead of the current one. -/
def ahead : WindowRec := ⟨⟨300, 14⟩, 4, ⟨List.replicate 16 60, 0xFFFF⟩, 0, []⟩

/-- TRACKING, with a window OPEN and a claim slot. -/
def claiming (slot : ClaimSlot) : State :=
  { ticking .mark with claims := { ClaimBuilder.cold with openWin := some ahead, slot := slot } }

/-- A composition of items. -/
def composed (l : List Item) : Composition := ⟨l, zonesZero, Arbiter.clear, 0, none⟩

theorem witness_GoodMarkBeginsWindow :
    (∀ s ∈ [claiming .idle, claiming (.prepared (composed [])), ticking .coast],
      s.takes marking (.mark (markOf 300 13)) = true ∧ s.clock.state ≠ .search ∧ s.claims.slot ≠ .sent) ∧
    (claiming .idle).clock.current = some ⟨⟨300, 12⟩, 4800, .mark⟩ ∧
    (ticking .coast).clock.current = some ⟨⟨300, 12⟩, 4800, .coast⟩ ∧ airNext ⟨300, 12⟩ = ⟨300, 13⟩ ∧
    (∀ t ∈ [7140, 7260], 4800 + 2340 ≤ t ∧ t ≤ 4800 + 2460) ∧
    (claiming .idle).claims.openWin = some ahead ∧ ahead.serial = (claiming .idle).clock.serial + 2 ∧
    (claiming .idle).claims.slot.busy = false ∧ (claiming (.prepared (composed []))).claims.slot.busy = true ∧
    (let u : State := { claiming .idle with claims := { (claiming .idle).claims with
       closedWin := some { ahead with serial := 3, claims := [⟨0, [⟨0, 7, 0xFFFF, 28, false⟩], false⟩] } } }
     u.claims.closedWin.map WindowRec.serial = some (u.clock.serial + 1) ∧
       u.claims.openWin.map WindowRec.serial = some (u.clock.serial + 2)) ∧
    (let u : State := { claiming .idle with claims := { (claiming .idle).claims with
       openWin := some { ahead with serial := 3, claims := [⟨0, [⟨0, 7, 0xFFFF, 28, false⟩], false⟩] } } }
     u.claims.openWin.map WindowRec.serial = some (u.clock.serial + 1) ∧ u.claims.closedWin = none) ∧
    ((claiming .idle).claims.openWin.map WindowRec.serial ≠ some ((claiming .idle).clock.serial + 1) ∧
      (claiming .idle).claims.closedWin = none ∧ (claiming .idle).msg 0 = none) ∧
    ((holding pager page).msg 0 = some page ∧ page.state = .queued ∧ page.link = none ∧
      (holding pager page).unit.setup.lifetime * 75 ≤ ((10750 : Serial) - page.accepted).toNat ∧
      ¬ (holding pager page).unit.setup.lifetime * 75 ≤ ((10749 : Serial) - page.accepted).toNat) ∧
    (∀ n ∈ [15, 16],
      let u : State := { claiming .waiting with claims := { (claiming .waiting).claims with
        startTest := true, openWin := some { ahead with sent := n } } }
      u.claims.startTest = true ∧ u.clock.state = .tracking ∧ u.claims.slot = .waiting ∧
        (u.claims.openWin.map WindowRec.sent = some 15 ∨ u.claims.openWin.map WindowRec.sent = some 16)) := by
  decide +kernel

theorem witness_JumpMovesAirTime :
    jumping.takes marking (.mark (markOf 0 1)) = true ∧ jumping.clock.state ≠ .search ∧
      jumping.clock.current = some ⟨⟨300, 12⟩, 4800, .mark⟩ ∧
      jumping.clock.held = some ⟨⟨0, 0⟩, 4802, ⟨[], 0⟩⟩ ∧ (⟨0, 1⟩ : AirTime) ≠ ⟨300, 12⟩ ∧
      (⟨0, 1⟩ : AirTime) ≠ airNext ⟨300, 12⟩ ∧ (⟨0, 1⟩ : AirTime) = airNext ⟨0, 0⟩ ∧
      ∀ t ∈ [7142, 7262], 4802 + 2340 ≤ t ∧ t ≤ 4802 + 2460 := by decide +kernel

/-- COASTING with a count of misses. -/
def coasting (misses : Nat) : State := { ticking .coast with clock := { tracking .coast with misses := misses } }

theorem witness_CoastBeginsWindowOnGrid :
    ((ticking .mark).unit.engine = .service ∧ (ticking .mark).unit.resetLow = false ∧
      (ticking .mark).clock.state ≠ .search ∧ (ticking .mark).clock.current = some ⟨⟨300, 12⟩, 4800, .mark⟩ ∧
      (ticking .mark).clock.misses < 3) ∧
    ((coasting 2).clock.state ≠ .search ∧ (coasting 2).clock.current = some ⟨⟨300, 12⟩, 4800, .coast⟩ ∧
      (coasting 2).clock.misses < 3) ∧
    (let u : State := { coasting 2 with claims := { ClaimBuilder.cold with
       openWin := some { ahead with serial := 3, claims := [⟨0, [⟨0, 7, 0xFFFF, 28, false⟩], false⟩] } } }
     u.claims.openWin.map WindowRec.serial = some (u.clock.serial + 1) ∧ u.claims.closedWin = none) ∧
    (let u : State := { coasting 2 with claims := { ClaimBuilder.cold with
       closedWin := some { ahead with serial := 3, claims := [⟨0, [⟨0, 7, 0xFFFF, 28, false⟩], false⟩] },
       openWin := some ahead } }
     u.claims.closedWin.map WindowRec.serial = some (u.clock.serial + 1) ∧
       u.claims.openWin.map WindowRec.serial ≠ some (u.clock.serial + 1)) := by
  decide +kernel

theorem witness_FourthMissLosesTheClock :
    (coasting 3).unit.engine = .service ∧ (coasting 3).unit.resetLow = false ∧ (coasting 3).clock.state ≠ .search ∧
      (coasting 3).clock.current = some ⟨⟨300, 12⟩, 4800, .coast⟩ ∧ 3 ≤ (coasting 3).clock.misses := by decide


/-! Claim Builder -/

/-- A window record OPEN for the pager's home window, of a serial. -/
def homeAhead (serial : Serial) (caps : Nat) : WindowRec :=
  ⟨⟨300, 40⟩, serial, ⟨List.replicate 16 caps, 0xFFFF⟩, 0, []⟩

/-- The page met by a composition of a number of items, at the cursor of its feed. -/
def composing (m : Msg) (w : WindowRec) (items : Nat) : State :=
  { holding pager m with
    clock := tracking .mark,
    store := { (holding pager m).store with cursors := ⟨some 0, none, none⟩ },
    claims := { ClaimBuilder.cold with
      openWin := some w, slot := .composing (composed (List.replicate items ⟨7, 1, 0xFFFF, 0, false⟩)) } }

/-- What every clause of CompositionStepDealsWithMessage asks. -/
def stepsOver (s : State) (m : Msg) (w : WindowRec) : Bool :=
  match s.claims.slot with
  | .composing c =>
    decide (s.unit.engine = .service) && !s.unit.resetLow && decide (s.claims.openWin = some w) &&
      decide (c.items.length < 16) && decide ((s.walkFeed c).1 = some .urgent) &&
      decide (feedGet s.store.cursors .urgent = some 0) && decide (s.msg 0 = some m)
  | _ => false

/-- One state for each row of R104's table, in its order; the lifetime is 750 windows. -/
theorem witness_CompositionStepDealsWithMessage :
    let w := homeAhead 10030 60
    let linked : Msg := { page with link := some ⟨10030, 0, 0⟩ }
    let old := homeAhead 10750 60
    let younger := homeAhead 10749 60
    let resting : Msg := { page with state := .resting 10031, sends := 1 }
    let held : State := { composing page w 0 with
      tracker := { Tracker.cold with entries := [⟨77, 5, 3, .between⟩] } }
    let crowded : State := { composing page w 0 with
      tracker := { Tracker.cold with entries := List.replicate 1024 ⟨1, 1, 3, .between⟩ } }
    let noZone : WindowRec := { w with plan := { w.plan with zones := 0 } }
    (stepsOver (composing linked w 0) linked w = true ∧ linked.link.isSome = true) ∧
    (stepsOver { composing page w 0 with
        claims := { (composing page w 0).claims with blocked := [(0, .urgent)] } } page w = true) ∧
    (stepsOver (composing page old 0) page old = true ∧ 10 * 75 ≤ (old.serial - page.accepted).toNat) ∧
    (stepsOver (composing page younger 15) page younger = true ∧
      ¬ 10 * 75 ≤ (younger.serial - page.accepted).toNat) ∧
    (stepsOver (composing resting w 0) resting w = true ∧ notDue resting w.serial = true) ∧
    (stepsOver held page w = true ∧ pager.twoWay = true ∧ page.sends = 0 ∧ held.keyHeld 77 5 = true) ∧
    (stepsOver crowded page w = true ∧ 1024 ≤ crowded.tracker.entries.length ∧ crowded.keyHeld 77 5 = false) ∧
    (stepsOver (composing page noZone 0) page noZone = true ∧ zonesOf site pager page noZone = 0) ∧
    (stepsOver (composing page (homeAhead 10030 27) 0) page (homeAhead 10030 27) = true ∧
      fits zonesZero zonesZero (List.replicate 16 27) 0xFFFF (sendCost page) = false) ∧
    (stepsOver (composing page (homeAhead 10030 28) 0) page (homeAhead 10030 28) = true ∧
      fits zonesZero zonesZero (List.replicate 16 28) 0xFFFF (sendCost page) = true) := by decide +kernel

/-- A feed stayed with whose cursor is not END and one whose is; 16 items, or no live feed; and a cursor at a slot that
reads FREE. -/
theorem witness_CompositionStepDealsWithMessage_walk :
    let s := composing page (homeAhead 10030 60) 0
    let free : State := { s with store := { s.store with msgs := [] } }
    let stopped : State := { s with store := { s.store with cursors := ⟨none, none, none⟩ } }
    (feedGet s.store.cursors .urgent ≠ none ∧ feedGet s.store.cursors .retry = none) ∧
      (16 ≤ (List.replicate 16 ()).length ∧ (composing page (homeAhead 10030 60) 16).claims.slot =
        .composing (composed (List.replicate 16 ⟨7, 1, 0xFFFF, 0, false⟩))) ∧
      (∀ f, feedGet stopped.store.cursors f = none) ∧
      ((free.walkFeed (composed [])).1 = some .urgent ∧ feedGet free.store.cursors .urgent = some 0 ∧
        free.msg 0 = none ∧ free.claims.slot = .composing (composed [])) := by
  refine ⟨by decide +kernel, by decide +kernel, fun f => by cases f <;> rfl, by decide +kernel⟩

theorem witness_ArbiterKeepsLevelsAndRuns :
    arbiterChoose site.feeds ⟨false, false, false⟩ Arbiter.clear = (none, ⟨⟨0, 0, 0⟩, none, none⟩) ∧
      arbiterChoose site.feeds ⟨true, true, true⟩ ⟨⟨1, 0, 0⟩, some .urgent, none⟩ =
        (some .urgent, ⟨⟨1, 0, 0⟩, some .urgent, none⟩) ∧
      arbiterChoose site.feeds ⟨true, true, true⟩ ⟨⟨0, 0, 0⟩, some .urgent, none⟩ =
        (some .retry, ⟨⟨0, 2, 0⟩, some .retry, none⟩) ∧
      arbiterChoose site.feeds ⟨false, false, true⟩ ⟨⟨0, 0, 0⟩, some .urgent, none⟩ =
        (some .routine, ⟨⟨0, 0, 4⟩, some .urgent, some .routine⟩) := by decide

/-- The step that takes the page fills its 28 cells exactly. -/
theorem witness_TakenItemFits :
    let s := composing page (homeAhead 10030 28) 15
    let t := after (.compositionStep (at_ 0)) s
    let items := List.replicate 15 ⟨7, 1, 0xFFFF, 0, false⟩
    exec (.compositionStep (at_ 0)) s = .next t ∧ s.claims.slot = .composing (composed items) ∧
      s.claims.openWin = some (homeAhead 10030 28) ∧
      t.claims.slot = .composing { composed (items ++ [⟨0, 7, 0xFFFF, 28, true⟩]) with
        tally := List.replicate 16 28 } :=
  ⟨rfl, by decide, by decide, by decide +kernel⟩

theorem witness_CompositionEndPrepares :
    (∀ s ∈ [composing page (homeAhead 10030 60) 16, composing page (homeAhead 10030 60) 15,
        claiming (.composing (composed []))], s.unit.engine = .service ∧ s.unit.resetLow = false) ∧
      (composing page (homeAhead 10030 60) 16).claims.slot =
        .composing (composed (List.replicate 16 ⟨7, 1, 0xFFFF, 0, false⟩)) ∧
      (composing page (homeAhead 10030 60) 15).claims.slot =
        .composing (composed (List.replicate 15 ⟨7, 1, 0xFFFF, 0, false⟩)) ∧
      feedGet (composing page (homeAhead 10030 60) 15).store.cursors .urgent = some 0 ∧
      (claiming (.composing (composed []))).claims.slot = .composing (composed []) ∧
      (∀ f ∈ [Feed.urgent, .retry, .routine],
        feedGet (claiming (.composing (composed []))).store.cursors f = none) := by decide +kernel

/-- R107: with no live feed the holders' runs are set to 0 and the other feed's stays. -/
theorem test_end_zeroes_holders :
    (after (.compositionEnd (at_ 0)) { claiming (.composing (composed [])) with
      claims := { (claiming (.composing (composed []))).claims with
        arbiter := ⟨⟨3, 1, 2⟩, some .urgent, some .routine⟩ } }).claims.arbiter =
      ⟨⟨0, 1, 0⟩, some .urgent, some .routine⟩ := by decide +kernel

theorem witness_SendCostWithinRange :
    (1 ≤ page.counts.length ∧ page.counts.length ≤ 8 ∧ (∀ c ∈ page.counts, c ≤ 32) ∧ partsIncluded page ≠ 0) ∧
      (let full : Msg := { page with counts := List.replicate 8 32 }
       full.counts.length ≤ 8 ∧ (∀ c ∈ full.counts, c ≤ 32) ∧ partsIncluded full ≠ 0 ∧ full.kind = .text ∧
         full.held = 0) ∧
      (let tone : Msg := { page with kind := .tone, counts := [0] }
       tone.kind = .tone ∧ tone.counts = [0] ∧ tone.held = 0) := by decide

/-- The page linked and its claim on the medium. -/
def sending (abandoned : Bool) (m : Msg) : State :=
  { holding pager m with
    span := { up.span with onAir := some (.claim abandoned) },
    claims := { ClaimBuilder.cold with
      openWin := some (homeAhead 10030 60), slot := .prepared (composed [⟨0, 7, 0xFFFF, 28, true⟩]) } }

theorem witness_ReportedSentClaimIsKept :
    (∀ st ∈ [MsgState.queued, .resting 10030, .finishing .expired 10028 .claim],
      let m : Msg := { page with state := st, link := some ⟨10030, 0, 0⟩ }
      (sending false m).unit.engine = .service ∧ (sending false m).unit.resetLow = false ∧
        (sending false m).span.onAir = some (.claim false) ∧
        (sending false m).claims.slot = .prepared (composed [⟨0, 7, 0xFFFF, 28, true⟩]) ∧
        (sending false m).claims.openWin = some (homeAhead 10030 60) ∧ (sending false m).msg 0 = some m ∧
        m.link.isSome = true) ∧
      (sending true page).span.onAir = some (.claim true) := by decide +kernel

/-- A CLAIM frame of a station, on the window (300, 14) or off it, with an item of the largest cost. -/
def claimOf (window : Byte) : ClaimBody := ⟨300, window, 0, [⟨3, 4, 97, 0xFFFF, 1⟩]⟩

theorem witness_TakenClaimRaisesFill :
    zoneAt (List.replicate 16 65535) 15 ≤ 65535 ∧
      (∀ src ∈ [(9 : BitVec 5), 12], ∀ window ∈ [(14 : Byte), 15],
        (claiming .sent).takes ⟨1, 0, src, 31⟩ (.claim (claimOf window)) = true) ∧
      (claiming .sent).claims.startTest = false ∧ (claiming .sent).claims.openWin = some ahead ∧
      ahead.air = ⟨300, 14⟩ ∧ ahead.air ≠ ⟨300, 15⟩ ∧ up.claims.openWin = none ∧
      up.takes ⟨1, 0, 12, 31⟩ (.claim (claimOf 14)) = true ∧ (9 : BitVec 5).toNat = up.unit.setup.own ∧
      (claiming .sent).claims.slot = .sent ∧ (sending false page).claims.slot =
        .prepared (composed [⟨0, 7, 0xFFFF, 28, true⟩]) ∧
      (composing page ahead 15).claims.slot =
        .composing (composed (List.replicate 15 ⟨7, 1, 0xFFFF, 0, false⟩)) := by
  decide +kernel

/-- R5, R111: a CLAIM withdrawn after its key was won still goes out as it was. -/
theorem test_withdrawn_claim_goes_on :
    let s : State := { sending false page with claims := { (sending false page).claims with openWin := some ahead } }
    let on : State := s.putOnAir (.claim false)
    let t := after (.claim ⟨1, 0, 12, 31⟩ (at_ 0) (claimOf 14)) on
    (t.span.onAir, t.claims.slot) = (some (.claim true), .idle) ∧ t.frameOnAir = on.frameOnAir ∧
      on.frameOnAir.isSome = true := by decide +kernel

/-- A claim of two items sent for the window (300, 14). -/
def reported : ClaimRec := ⟨0, [⟨0, 7, 0xFFFF, 28, false⟩, ⟨1, 7, 0xFFFF, 28, false⟩], false⟩

/-- The window (300, 14) with that claim, resolved or not. -/
def claimed (resolved : Bool) : WindowRec := { ahead with sent := 1, claims := [{ reported with resolved := resolved }] }

theorem witness_ReportResolvesClaimByPrefix :
    let opened (r : Bool) : State := { up with claims := { ClaimBuilder.cold with openWin := some (claimed r) } }
    let closed (r : Bool) : State := { up with claims := { ClaimBuilder.cold with closedWin := some (claimed r) } }
    up.takes marking (.report ⟨300, 14, [⟨9, 0, 1⟩]⟩) = true ∧ (12 : Byte).toNat ≠ up.unit.setup.own ∧
      up.claims.openWin = none ∧ up.claims.closedWin = none ∧ (9 : Byte).toNat = up.unit.setup.own ∧
      (opened false).claims.openWin = some (claimed false) ∧ (closed true).claims.openWin = none ∧
      (closed true).claims.closedWin = some (claimed true) ∧ (claimed false).air = ⟨300, 14⟩ ∧
      (claimed false).claims.find? (fun c => decide (c.number = (0 : Byte).toNat ∧ c.resolved = false)) =
        some reported ∧
      (claimed true).claims.find? (fun c => decide (c.number = (0 : Byte).toNat ∧ c.resolved = false)) = none ∧
      (let reserved : State := { holding pager page with
         tracker := { Tracker.cold with reservations := [⟨77, 5, 0⟩] } }
       reserved.reservationOf 0 = some ⟨77, 5, 0⟩ ∧ reserved.reservationOf 1 = none) ∧
      (∀ st ∈ [MsgState.queued, .resting 10030, .claimed .queued, .claimed (.resting 10030),
          .finishing .expired 10028 .claim], ∀ marked ∈ [false, true],
        let m : Msg := { page with state := st, recallMark := marked, link := some ⟨4, 0, 0⟩ }
        (holding pager m).msg 0 = some m) := by
  decide +kernel

/-! Acknowledgement Tracker -/

/-- The page AWAITING with its entry in a state, in a tracker. -/
def awaiting (m : Msg) (x : EntryState) : State :=
  { holding pager { m with state := .awaiting, feed := none } with
    tracker := { entries := [⟨77, 5, 0, x⟩], reservations := [], deadlines := [0] } }

/-- The page aired in full once. -/
def aired : Msg := { page with aired := 7, sends := 1 }

theorem witness_HeardCreditsItsEntry :
    (∀ parts ∈ [(5 : PartMask), 7], ∀ st ∈ [EntryState.waiting 10033, .between],
      (awaiting aired st).takes ⟨2, 0, 17, 31⟩ (.heard ⟨77, 5, parts, 7, 10⟩) = true ∧
      (awaiting aired st).claims.startTest = false ∧ (awaiting aired st).entryAt 77 5 = some ⟨77, 5, 0, st⟩ ∧
      (awaiting aired st).msg 0 = some { aired with state := .awaiting, feed := none } ∧
      (awaiting aired st).entryAt 77 6 = none) ∧
    (allParts 3 &&& ~~~ ((0 : PartMask) ||| (7 &&& 7)) = 0 ∧ allParts 3 &&& ~~~ ((0 : PartMask) ||| (5 &&& 7)) ≠ 0) := by
  decide +kernel

theorem witness_LastHeardOrderFree :
    (⟨7, 10, 10031⟩ : LastHeard).serial ≠ (⟨3, 9, 10012⟩ : LastHeard).serial ∧
      (⟨6, 12, 10031⟩ : LastHeard).serial = (⟨7, 10, 10031⟩ : LastHeard).serial := by decide

theorem witness_RetryLadderNotBefore : 74 < 75 ∧ 0 < 75 ∧ 1 ≤ 1 ∧ homeDistance 0 74 = 1 ∧ homeDistance 74 74 = 75 := by
  decide

theorem witness_DeadlineDecidesInOrder :
    (∀ k ∈ [3, 4], let m : Msg := { aired with sends := k }
      (awaiting m (.waiting 10033)).entryOf 0 = some ⟨77, 5, 0, .waiting 10033⟩ ∧
      (awaiting m (.waiting 10033)).msg 0 = some { m with state := .awaiting, feed := none } ∧
      tableSorted (awaiting m (.waiting 10033)).store.due = true) ∧
    (awaiting aired .between).entryOf 0 = some ⟨77, 5, 0, .between⟩ ∧ EntryState.between ≠ .waiting 10033 ∧
    (site.maxSends = 4 ∧ 3 ≠ 4) ∧ site.lifetime * 75 ≤ ((10750 : Serial) - aired.accepted).toNat ∧
    ¬ site.lifetime * 75 ≤ ((10749 : Serial) - aired.accepted).toNat := by decide +kernel

theorem witness_CarriedItemNextState :
    let m (st : MsgState) (marked : Bool) : Msg :=
      { page with state := st, recallMark := marked, link := some ⟨10030, 0, 0⟩ }
    let oneWay (repeats : Nat) : Subscriber := { pager with twoWay := false, repeatCount := repeats }
    (∀ x ∈ [m (.finishing .expired 10028 .claim) false, m (.finishing .expired 10028 .queue) false,
        m (.claimed .queued) true, m (.claimed .queued) false],
      (holding pager x).msg 0 = some x ∧ tableSorted (holding pager x).store.due = true) ∧
    (∀ x ∈ [page, { page with state := .resting 10031 }, { page with state := .awaiting, feed := none }],
      (holding pager x).msg 0 = some x) ∧ up.msg 0 = none ∧
    ({ holding pager (m (.claimed .queued) false) with
        tracker := { Tracker.cold with reservations := [⟨77, 5, 0⟩] } } : State).reservationOf 0 = some ⟨77, 5, 0⟩ ∧
    (∀ k ∈ [1, 2], (holding (oneWay k) (m (.claimed .queued) false)).msg 0 = some (m (.claimed .queued) false) ∧
      ((holding (oneWay k) (m (.claimed .queued) false)).sub 0).twoWay = false) ∧
    (page.sends + 1 < 2 ∧ 1 ≤ page.sends + 1) ∧ (holding pager page).claims.slot = .idle := by decide +kernel

/-- R105, R123: a carried hand-off that makes no entry releases the reservation of a first send, whatever the message
reads as; one that makes an entry converts it. -/
theorem test_carried_ends_reservation :
    let t (r : Subscriber) (m : Msg) : Tracker :=
      (State.carryItem 10030
        { holding r m with tracker := { Tracker.cold with reservations := [⟨77, 5, 0⟩] } } ⟨0, 7, 0xFFFF, 28, true⟩).tracker
    let claimed : Msg := { page with state := .claimed .queued }
    (∀ m ∈ [page, { page with state := .resting 3 }, { page with state := .awaiting }, { claimed with recallMark := true }],
      t pager m = Tracker.cold) ∧
    t { pager with twoWay := false } claimed = Tracker.cold ∧
    t pager claimed = ⟨[⟨77, 5, 0, .waiting 10033⟩], [], [0]⟩ := by decide +kernel

/-! Charges, accounts and records -/

theorem witness_ChargeBoundedAndMonotone :
    65535 ≤ 65535 ∧ 4095 ≤ 4095 ∧ 255 ≤ 255 ∧ 256 ≤ 256 := by decide

theorem witness_ActualChargeWithinHold :
    (page.hold = chargeFor page.basis page.priority page.counts.sum) ∧
      (1 ≤ page.counts.length ∧ page.counts.length ≤ 8) ∧
      (let m : Msg := { page with held := 7 }
       m.hold = chargeFor m.basis m.priority m.counts.sum ∧ allParts m.counts.length &&& ~~~ m.held = 0) ∧
      (let some_ : Msg := { page with held := 5 }
       some_.counts.length ≤ 8 ∧ chargedChars some_ .expired = 38 ∧ actualCharge some_ .expired = 368 ∧
         actualCharge some_ .sentBlind = 488) ∧
      (Ending.expired ≠ .sentBlind ∧ page.held = 0) := by decide

/-- The page FINISHING with its hold on the account, over an occupancy of the charge record queue. -/
def ended (plan : Plan) (records : Nat) (wait : List Nat) : State :=
  let m : Msg := { page with
    state := .finishing .partly 10040 .queue, feed := none, held := 5, basis := { page.basis with plan := plan } }
  let s := holding { pager with plan := plan, balance := 512, held := 488 } m
  { s with
    store := { s.store with waitList := wait },
    queue := { s.queue with records := List.replicate records ⟨0, .periodDone 0 0⟩ } }

theorem witness_SettlementChargesAndReleases :
    (∀ plan ∈ [Plan.prepaid, .postpaid], ∀ n ∈ [0, 1023, 1024],
      ((ended plan n []).msg 0).map Msg.state = some (.finishing .partly 10040 .queue) ∧
      ((ended plan n []).msg 0).map (fun m => m.basis.plan) = some plan ∧ 0 < 8192 ∧
      tableSorted (ended plan n []).subs = true ∧ tableSorted (ended plan n []).store.msgs = true ∧
      ((ended plan n []).queue.records.length < 1024 ∨ 1024 ≤ (ended plan n []).queue.records.length)) ∧
    (ended .prepaid 0 [7]).store.waitList ≠ [] ∧
    ((ended .prepaid 0 []).queue.records = [] ∧ (ended .prepaid 0 []).unit.engine = .service ∧
      (ended .prepaid 0 []).unit.resetLow = false) := by decide +kernel

def stage (cls : Byte) : TariffBody := ⟨cls, 150, 40, 50⟩

theorem witness_TariffStageWritesItsClass :
    (∀ s ∈ [up, { up with charge := { tariff with set := false, loaded := 0x7F } }, { up with charge := tariff }],
      s.takes (from_ 4 4) (.tariffStage (stage 7)) = true ∧ s.claims.startTest = false ∧
      tableSorted s.charge.active = true ∧ tableSorted s.charge.staged = true) ∧
    up.charge.set = false ∧ tariff.set = true := by decide +kernel

theorem witness_CreditAppliedUpToHeadroom :
    let credit (number : BitVec 24) (amount : BitVec 24) : CreditBody := ⟨number, amount, 5⟩
    let s (r : Subscriber) : State := { up with subs := [(0, r)] }
    (∀ dst ∈ [(9 : BitVec 5), 31], up.takes ⟨4, 0, 3, dst⟩ (.credit (credit 1210000 500)) = true) ∧
      up.claims.startTest = false ∧ up.decode 1210000 = none ∧ up.decode 1200000 = some 0 ∧
      (∀ r ∈ [Subscriber.vacant, { pager with plan := .postpaid },
          { pager with lastCredit := some (5, ⟨.applied, 1, 0, 1, 0⟩) }, pager],
        (s r).takes (from_ 4 3) (.credit (credit 1200000 500)) = true ∧ (s r).decode 1200000 = some 0 ∧
        (s r).sub 0 = r) ∧
      (Subscriber.vacant.state = .vacant ∧ pager.state ≠ .vacant ∧ pager.plan = .prepaid ∧ pager.lastCredit = none) ∧
      (min 76727 (16777215 - 16700000 - 488) = 76727 ∧ min 76728 (16777215 - 16700000 - 488) = 76727) := by
  decide +kernel

theorem witness_PeriodCloseJudged :
    let s (p : Option Nat) (w : Option Sweep) : State := { up with queue := { up.queue with period := p, sweep := w } }
    (∀ x ∈ [s none none, s (some 20) (some ⟨0, 0, false⟩), s (some 21) (some ⟨0, 0, false⟩), s (some 20) none],
      x.takes (from_ 4 3) (.periodClose 21) = true ∧ x.claims.startTest = false ∧
      tableSorted x.charge.active = true) := by decide +kernel

/-- A sweep at an index over one postpaid record with a used closing bank. -/
def sweepingAt (next records : Nat) (bank : Bank) : State :=
  { up with
    subs := [(32767, { pager with plan := .postpaid, mark := .b1, bank0 := bank })],
    queue := { up.queue with
      selector := .b1, period := some 21, sweep := some ⟨next, 0, false⟩,
      records := List.replicate records ⟨0, .periodDone 0 0⟩ } }

theorem witness_PeriodSweepSteps :
    (∀ next ∈ [0, 32767, 32768], ∀ n ∈ [959, 960],
      (sweepingAt next n ⟨5, 220, 6, 2100⟩).unit.engine = .service ∧
      (sweepingAt next n ⟨5, 220, 6, 2100⟩).unit.resetLow = false ∧
      (sweepingAt next n ⟨5, 220, 6, 2100⟩).queue.sweep = some ⟨next, 0, false⟩ ∧
      tableSorted (sweepingAt next n ⟨5, 220, 6, 2100⟩).subs = true ∧
      (sweepingAt next n ⟨5, 220, 6, 2100⟩).queue.records.length = n) ∧
    (32767 < 32768 ∧ site.highMark = 960) ∧
    (bankUsed (bankOf ((sweepingAt 32767 0 ⟨5, 220, 6, 2100⟩).sub 32767) .b0) = true ∧
      ((sweepingAt 32767 0 ⟨5, 220, 6, 2100⟩).sub 32767).plan = .postpaid) ∧
    (bankUsed (bankOf ((sweepingAt 32767 0 ⟨0, 0, 0, 0⟩).sub 32767) .b0) = false ∧
      ((sweepingAt 32767 0 ⟨0, 0, 0, 0⟩).sub 32767).mark = .b1 ∧
      ((sweepingAt 0 0 ⟨0, 0, 0, 0⟩).sub 0).state = .vacant) := by decide +kernel

/-- Two settled messages wait for room over an occupancy of the queue. -/
def queuing (records : Nat) : State :=
  let m : Msg := { page with state := .finishing .partly 10040 .queue, feed := none, settlement := some ⟨38, 368, none⟩ }
  { up with
    store := { up.store with
      msgs := [(0, m), (1, { m with seq := 6 })], pool := ⟨[], 2⟩, waitList := [1, 0], serveDue := true },
    queue := { up.queue with records := List.replicate records ⟨0, .periodDone 0 0⟩ } }

theorem witness_WaitListServedInOrder :
    up.store.serveDue = false ∧
    ∀ n ∈ [0, 1023, 1024],
      (queuing n).unit.engine = .service ∧ (queuing n).unit.resetLow = false ∧ (queuing n).store.serveDue = true ∧
      tableSorted (queuing n).store.msgs = true ∧ (queuing n).queue.records.length ≤ 1024 ∧
      (queuing n).store.waitList.Nodup ∧
      (∀ slot ∈ (queuing n).store.waitList,
        ((queuing n).msg slot).map Msg.state = some (.finishing .partly 10040 .queue) ∧
        (((queuing n).msg slot).bind Msg.settlement).isSome = true) := by decide +kernel

/-! Intake Unit -/

theorem witness_ShapingKeepsParts :
    (∀ p ∈ [1, 8], 1 ≤ p ∧ p ≤ 8) ∧
      (∀ l ∈ [(⟨.urgent, .text, 70, List.replicate 70 65⟩ : Latched), ⟨.routine, .text, 0, []⟩,
          ⟨.routine, .tone, 300, List.replicate 256 1⟩, ⟨.routine, .numeric, 257, List.replicate 256 1⟩],
        l.chars.length = min l.count 256) ∧
      (shows .tone .text = false ∧ shows .text .numeric = true) := by decide +kernel

/-- TRACKING, with the pager's home window OPEN and a number of claims sent for it. -/
def onHomeWindow (s : State) (slot : ClaimSlot) (sent : Nat) : State :=
  { s with
    clock := tracking .mark,
    claims := { ClaimBuilder.cold with openWin := some { homeAhead 4 60 with sent := sent }, slot := slot } }

/-- A pager that a deposit finds, with a tariff state, an occupancy and a count of FREE slots. -/
def taking (r : Subscriber) (t : Tariffs) (records : Nat) (fresh : Nat) : State :=
  { up with
    subs := [(0, r)], charge := t, store := { up.store with pool := ⟨[], fresh⟩ },
    queue := { up.queue with records := List.replicate records ⟨0, .periodDone 0 0⟩ } }

theorem witness_DepositPerformedAtOnce :
    (∀ r ∈ [Subscriber.vacant, { pager with state := .stopped }, pager,
        { pager with pendingLimit := 1, pendingList := [7] }, { pager with pendingLimit := 2, pendingList := [7] },
        { pager with balance := 487 }, { pager with balance := 488 }, { pager with plan := .postpaid, balance := 0 }],
      let s := taking r tariff 959 8127
      s.takes text (.deposit deposit70) = true ∧ s.claims.startTest = false ∧ s.decode 1200000 = some 0 ∧
      s.intake.table = [] ∧ poolCount s.store.pool = 65 ∧ s.unit.setup.holdMark = 64 ∧
      s.queue.records.length < s.unit.setup.highMark ∧ tableSorted s.subs = true ∧
      tableSorted s.store.due = true ∧ s.sub 0 = r) ∧
    (taking pager Tariffs.cold 959 8127).charge.set = false ∧ tariff.set = true ∧
    (let shape := shapeFor .text 8 ⟨.urgent, .text, 70, List.replicate 70 65⟩
     chargeFor page.basis .urgent shape.chars.length = 488) ∧ (487 < 488 ∧ 488 ≤ 488) ∧
    (∀ n ∈ [15, 16], ∀ slot ∈ [ClaimSlot.waiting, .composing (composed []), .idle],
      let s := onHomeWindow (taking pager tariff 959 8127) slot n
      s.takes text (.deposit deposit70) = true ∧ s.claims.slot = slot ∧ s.clock.state = .tracking ∧
        s.claims.openWin.map (fun w => w.air.window) = some pager.homeWindow ∧
        s.store.cursors = ⟨none, none, none⟩) ∧
    (claiming .waiting).claims.openWin.map (fun w => w.air.window) ≠ some pager.homeWindow ∧
    (holding pager page).msg 0 = some page := by decide +kernel

/-- R71, R103: a deposit of the claim window's list starts a composition from WAITING, and is named by a walk's cursor at
END. -/
theorem test_deposit_wakes_or_is_named :
    let t (slot : ClaimSlot) : State := after (.deposit text (at_ 0) deposit70)
      (onHomeWindow (taking pager tariff 0 0) slot 15)
    (t .waiting).claims.slot = .composing { composed [] with savedArbiter := Arbiter.clear } ∧
      (t .waiting).store.cursors = ⟨some 0, none, none⟩ ∧
      (t (.composing (composed []))).store.cursors = ⟨some 0, none, none⟩ ∧
      (t .idle).store.cursors = ⟨none, none, none⟩ := by decide +kernel

/-- The answer kept for a deposit of tag 700. -/
def kept : Answer :=
  ⟨700, 1200000, .refused, .busy, 0, ⟨false, false, false⟩, .tone, 0, 0, 0, false⟩

/-- An entry of the delayed deposit table for origin 20. -/
def delayed (tag : Nat) (status : DelayedStatus) : Delayed :=
  ⟨20, tag, 1200000, 0, ⟨.urgent, .text, 70, List.replicate 70 65⟩, status⟩

/-- A table of delayed deposits. -/
def delaying (l : List Delayed) : State := { taking pager tariff 0 0 with intake := ⟨l, true⟩ }

theorem witness_DepositHeldOrAnsweredAgain :
    let others (n : Nat) : List Delayed := (List.range n).map (fun i => delayed i (.complete kept 5000))
    (∀ s ∈ [delaying [], delaying [delayed 700 .pending], delaying [delayed 700 (.complete kept 5000)],
        delaying [delayed 1 .pending], delaying (others 7), delaying (others 8), taking pager tariff 960 0,
        taking pager tariff 0 8128],
      s.takes text (.deposit deposit70) = true ∧ s.claims.startTest = false ∧ s.decode 1200000 = some 0 ∧
        s.decode 1210000 = none) ∧
    (let s := taking pager tariff 0 8128
     poolCount s.store.pool ≤ s.unit.setup.holdMark) ∧
    (let s := taking pager tariff 960 0
     s.unit.setup.highMark ≤ s.queue.records.length) ∧
    ((delayed 1 .pending).status = .pending ∧ (delayed 1 .pending).number = deposit70.number.toNat) ∧
    ((delaying (others 7)).intake.table.length < 8 ∧ 8 ≤ (delaying (others 8)).intake.table.length) ∧
    ((delaying [delayed 700 .pending]).intake.table.find? (fun d => decide (d.origin = 20 ∧ d.tag = 700)) =
        some (delayed 700 .pending) ∧
      (delaying (others 7)).intake.table.find? (fun d => decide (d.origin = 20 ∧ d.tag = 700)) = none) := by
  decide +kernel

theorem witness_DelayedRunPerformsOldestFirst :
    (let s := delaying [delayed 1 (.complete kept 5000), delayed 2 .pending, delayed 3 .pending]
     s.unit.engine = .service ∧ s.unit.resetLow = false ∧ s.intake.runDue = true ∧ DelayedTableKeyed s) ∧
    (let s := taking pager tariff 959 8127
     s.takes text (.deposit deposit70) = true ∧ s.decode 1200000 = some 0 ∧ s.intake.table = [] ∧
       s.unit.setup.holdMark < poolCount s.store.pool ∧ s.queue.records.length < s.unit.setup.highMark) ∧
    (up.intake.runDue = false ∧ up.claims.startTest = false) ∧
    (delaying [delayed 700 (.complete kept 5000)]).intake.table.find?
        (fun x => decide (x.origin = (20 : BitVec 5).toNat ∧ x.tag = (700 : BitVec 16).toNat)) =
      some (delayed 700 (.complete kept 5000)) := by
  refine ⟨⟨rfl, rfl, rfl, by decide, by decide, by decide⟩, by decide +kernel, by decide, by decide⟩

/-- R50, R51: of two PENDING entries the older is performed with its ANSWER, and the other too, for the marks allow it.
-/
theorem test_delayed_run :
    let t := after (.delayedDepositRun (at_ 0)) (delaying [delayed 2 .pending, delayed 3 .pending])
    (t.store.msgs.map (fun x => (x.1, x.2.tag)), t.intake.table.map (fun d => decide (d.status = .pending))) =
      ([(0, 2), (1, 3)], [false, false]) := by decide +kernel

/-- The page at the cursor of a walk of its list, between slot 7 and others, with the feed the walk stays with. -/
def leaving (chosen : Option Feed) (after : List Nat) : State :=
  { holding pager page with
    clock := tracking .mark,
    store := { (holding pager page).store with
      due := [(dueKey 40 .urgent, 7 :: 0 :: after)], cursors := ⟨some 0, none, none⟩ },
    claims := { ClaimBuilder.cold with
      openWin := some (homeAhead 4 60), slot := .composing { composed [] with chosen := chosen } } }

theorem witness_RecallAnsweredByState :
    let s (m : Msg) : State := { holding pager m with
      claims := { ClaimBuilder.cold with
        openWin := some (homeAhead 10030 60), slot := .prepared (composed [⟨0, 7, 0xFFFF, 28, true⟩]) } }
    let linked : Msg := { page with link := some ⟨10030, 0, 0⟩ }
    (∀ m ∈ [page, linked, { page with state := .finishing .expired 10028 .queue },
        { linked with state := .claimed .queued }, { page with state := .awaiting, feed := none },
        { page with state := .resting 10105, feed := some .retry }],
      (s m).takes text (.recall ⟨1200000, 5⟩) = true ∧ (s m).takes text (.recall ⟨1210000, 5⟩) = true ∧
      (s m).claims.startTest = false ∧ (s m).decode 1210000 = none ∧ (s m).decode 1200000 = some 0 ∧
      ((s m).sub 0).pendingList = [] ++ 0 :: [] ∧ (s m).msg 0 = some m ∧ m.seq = 5 ∧
      tableSorted (s m).store.due = true) ∧
    up.takes text (.recall ⟨1200000, 6⟩) = true ∧ (up.sub 0).pendingList = [] ∧
    (let l := List.range' 1 15 ++ 0 :: [99]
     (List.range' 1 15).length < 16 ∧ l.take 16 = List.range' 1 15 ++ [0]) ∧
    (∀ chosen ∈ [none, some Feed.urgent], ∀ after ∈ [[], [8]],
      let s := leaving chosen after
      s.msg 0 = some page ∧ page.feed = some .urgent ∧ s.dueList (dueKey (s.sub 0).homeWindow .urgent) = 7 :: 0 :: after ∧
        (0 : Nat) ∉ [7] ∧ (0 : Nat) ∉ after ∧ s.claims.slot = .composing { composed [] with chosen := chosen } ∧
        s.claims.openWin.map (fun w => w.air.window) = some (s.sub 0).homeWindow ∧
        feedGet s.store.cursors .urgent = some 0) ∧
    (up.entryOf 0 = none ∧ (awaiting aired .between).entryOf 0 = some ⟨77, 5, 0, .between⟩) := by decide +kernel

/-- R71, R107: the cursor that names a recalled message moves to its successor; at END, with its feed chosen, the arbiter
chooses anew. -/
theorem test_recall_moves_cursor :
    let t (after_ : List Nat) : State := after (.recall text (at_ 0) ⟨1200000, 5⟩) (leaving (some .urgent) after_)
    (t [8]).store.cursors = ⟨some 8, none, none⟩ ∧
      (t [8]).claims.slot = .composing { composed [] with chosen := some .urgent } ∧
      (t []).store.cursors = ⟨none, none, none⟩ ∧ (t []).claims.slot = .composing (composed []) := by decide +kernel

/-- R56, R182: a second RECALL of a marked message changes nothing: its bad byte stays bad; the first writes it good. -/
theorem test_second_recall :
    let t (marked : Bool) : State := after (.recall text (at_ 0) ⟨1200000, 5⟩)
      { holding pager { page with state := .claimed .queued, link := some ⟨4, 0, 0⟩, recallMark := marked } with
        parity := [(2097152, .message 0)] }
    (t true).parity = [(2097152, .message 0)] ∧ (t false).parity = [] ∧
      (t true).span.notices = [⟨20, .recallAnswer 1200000 5 .noted 0, 0⟩] := by decide +kernel

/-- R70, R130, R131, R145, R178, R182: a place a rule leaves or keeps is not made good: a message swept without a link, a
HEARD that gains nothing, a PERIOD CLOSE with nothing staged, and the head and tail of a list left from its middle. -/
theorem test_places_not_written :
    let bad (s : State) (l : List (Nat × StorePlace)) : State := { s with parity := l }
    let records : List (Nat × StorePlace) := [(0, .subscriber 0), (2097152, .message 0)]
    let heard : State :=
      { awaiting { aired with held := 5 } .between with
        subs := [(0, { pager with lastHeard := some ⟨7, 10, 0⟩, pendingList := [0] })] }
    let list : List (Nat × StorePlace) := [(4768224, .dueList (dueKey 40 .urgent))]
    (∀ m ∈ [page, { page with state := .resting 3 }],
      (after (.recoverySweepStep (at_ 0)) (bad (recovering m ⟨0, []⟩) records)).parity = records) ∧
    (after (.heard ⟨2, 0, 17, 31⟩ (at_ 0) ⟨77, 5, 5, 7, 9⟩) (bad heard records)).parity = records ∧
    (after (.periodClose (from_ 4 3) (at_ 0) 21) (bad up [(4768700, .tariffs)])).parity = [(4768700, .tariffs)] ∧
    (after (.recall text (at_ 0) ⟨1200000, 5⟩) (bad (leaving none [8]) list)).parity = list ∧
    (after (.recall text (at_ 0) ⟨1200000, 5⟩) (bad (leaving none []) list)).parity = [] := by decide +kernel

/-- R182: a message that enters FINISHING reads the window serial, whose bad byte latches STORE_PARITY. -/
theorem test_finishing_reads_serial :
    (after (.recall text (at_ 0) ⟨1200000, 5⟩) { holding pager page with parity := [(4768650, .serial)] }).stat
      .storeErrors = 1 := by decide +kernel

/-! Subscriber Table -/

theorem witness_NumbersDecodeThroughWindows :
    windowsApart up.unit.setup.windows = true ∧ up.decode 1200000 = some 0 ∧ up.decode 1209999 = some 9999 ∧
      up.decode 1210000 = none ∧ up.decode 3450000 = some 10000 ∧ up.decode 9016767 = some 32767 ∧
      up.decode 9016768 = none := by decide

/-- A LOAD of the pager's own fields, with a plan, a repeat count and a two-way byte. -/
def loadOf (plan repeats twoWay : Byte) : LoadBody :=
  ⟨9, 1200000, 0, 77, 40, 2, twoWay, 8, repeats, plan, 2, 4, 1000, 600⟩

theorem witness_LoadSetCreatesOrReplaces :
    let s (r : Subscriber) (n : Nat) : State := { taking r tariff n 0 with
      store := (holding pager { page with sends := 1 }).store }
    let post : Subscriber := { pager with plan := .postpaid, bank0 := ⟨5, 220, 6, 2100⟩ }
    let blind : Subscriber := { pager with twoWay := false, repeatCount := 3, pendingList := [0] }
    (∀ r ∈ [Subscriber.vacant, pager, post, blind], ∀ b ∈ [loadOf 0 1 1, loadOf 1 1 1, loadOf 0 1 0, loadOf 0 9 1],
      (s r 0).takes (from_ 4 4) (.load 0 b) = true ∧ (s r 0).claims.startTest = false ∧
      (s r 0).decode b.number.toNat = some 0 ∧ tableSorted (s r 0).subs = true ∧ (s r 0).sub 0 = r) ∧
    (up.takes ⟨4, 0, 4, 31⟩ (.load 0 { loadOf 0 1 1 with number := 1210000 }) = true ∧ up.decode 1210000 = none) ∧
    (loadInRange (loadOf 0 1 1) = true ∧ loadInRange (loadOf 0 9 1) = false) ∧
    (changesLocked { pager with pendingList := [0] } (loadOf 1 1 1) = true ∧
      changesLocked { pager with pendingList := [0] } (loadOf 0 1 1) = false) ∧
    ((s blind 0).lowersBelowSends blind (loadOf 0 1 0) = false ∧
      ({ s blind 0 with store := (holding pager { page with sends := 2 }).store } : State).lowersBelowSends blind
        (loadOf 0 1 0) = true) ∧
    ((s post 0).finalTotals 0 1200000 post ≠ [] ∧
      1024 < 1024 + ((s post 1024).finalTotals 0 1200000 post).length ∧
      1023 + ((s post 1023).finalTotals 0 1200000 post).length ≤ 1024) ∧
    (let m : Msg := { page with state := .resting 10030, sends := 2 }
     (holding pager m).msg 0 = some m ∧ 2 ≤ m.sends ∧ ¬ 3 ≤ m.sends) := by decide +kernel

/-- R33, R34: the walk ends after 16 slots, and a SET that the lock refuses does not look at the queue. -/
theorem test_set_walks_and_lock :
    let blind (n : Nat) : Subscriber :=
      { pager with twoWay := false, repeatCount := 3, pendingList := List.range' 1 n ++ [0] }
    let s (r : Subscriber) : State := { holding pager { page with sends := 2 } with
      subs := [(0, r)], parity := [(4768644, .pointers)] }
    (s (blind 16)).lowersBelowSends (blind 16) (loadOf 0 1 0) = false ∧
      (s (blind 15)).lowersBelowSends (blind 15) (loadOf 0 1 0) = true ∧
      (let t := after (.loadSet (from_ 4 4) (at_ 0) (loadOf 0 1 1))
         (s { pager with plan := .postpaid, pendingList := [0] })
       (t.stat .storeErrors, t.span.notices.map Notice.body) =
         (0, [.loadAnswer 9 1200000 .busy .pending 1 0 .active])) := by decide +kernel

theorem witness_LoadVacatesOrAnswersBadField :
    let s (r : Subscriber) (n : Nat) : State := taking r tariff n 0
    let post : Subscriber := { pager with plan := .postpaid, bank0 := ⟨5, 220, 6, 2100⟩ }
    (∀ op ∈ [(1 : Byte), 2, 255], ∀ r ∈ [Subscriber.vacant, { pager with pendingList := [0] }, pager, post],
      (s r 0).takes (from_ 4 4) (.load op (loadOf 0 1 1)) = true ∧ (s r 0).claims.startTest = false ∧
      (s r 0).decode 1200000 = some 0 ∧ tableSorted (s r 0).subs = true ∧ (s r 0).sub 0 = r) ∧
    (∀ op ∈ [(1 : Byte), 2], up.takes ⟨4, 0, 4, 31⟩ (.load op { loadOf 0 1 1 with number := 1210000 }) = true) ∧
    up.decode 1210000 = none ∧ (2 : Byte) ≠ 0 ∧ (2 : Byte) ≠ 1 ∧
    (1024 < 1024 + ((s post 1024).finalTotals 0 1200000 post).length ∧
      1023 + ((s post 1023).finalTotals 0 1200000 post).length ≤ 1024) ∧
    (let both : Subscriber := { post with bank1 := ⟨1, 1, 1, 1⟩ }
     (s both 0).closingFinal 0 both = true ∧
       ((s both 0).finalTotals 0 1200000 both).length = 2 ∧ (s post 0).closingFinal 0 post = false) := by
  decide +kernel

/-! Queries and invariants -/

theorem witness_QueriesAnswerWhatStands :
    let s := holding pager page
    (s.claims.startTest = false ∧ s.takes (from_ 6 5) (.query 0 ⟨1, 0, 0⟩) = true ∧
      s.takes (from_ 6 5) (.query 0 ⟨1, 1, 0⟩) = true ∧ s.takes (from_ 6 5) (.query 1 ⟨1, 0, 1200000⟩) = true ∧
      s.takes ⟨6, 0, 5, 31⟩ (.query 1 ⟨1, 0, 1210000⟩) = true ∧ s.takes (from_ 6 5) (.query 2 ⟨1, 0, 0⟩) = true ∧
      s.takes (from_ 6 5) (.query 2 ⟨1, 0, 8191⟩) = true ∧ s.takes (from_ 6 5) (.query 3 ⟨1, 0, 0⟩) = true) ∧
    (s.decode 1200000 = some 0 ∧ s.decode 1210000 = none ∧ s.msg 0 = some page ∧ s.msg 8191 = none) ∧
    (∀ x ∈ [EntryState.waiting 10033, .between],
      (awaiting aired x).tracker.entries.find? (fun y => y.slot = 0) = some ⟨77, 5, 0, x⟩) ∧
    ((awaiting aired .between).tracker.entries.find? (fun y => y.slot = 1) = none ∧
      page.feed = some .urgent ∧ s.dueList (dueKey (s.sub 0).homeWindow .urgent) = [] ++ 0 :: [] ∧
      (0 : Nat) ∉ ([] : List Nat)) := by
  decide +kernel

/-- The state the invariants are shown over: a message in store, a notice, a delayed deposit, a record, the clock
TRACKING. -/
def running : State :=
  { holding pager page with
    clock := { tracking .mark with latest := some (⟨300, 14⟩, ahead.plan) },
    span := { up.span with notices := [⟨20, .recallAnswer 1200000 5 .noted 0, 2⟩] },
    intake := ⟨[delayed 1 .pending], false⟩,
    queue := { up.queue with records := [⟨16777215, .periodDone 1 0⟩], nextNumber := 0 },
    claims := { ClaimBuilder.cold with openWin := some ahead, slot := .prepared (composed []) },
    stats := [(3, 65535)], pending := [.compositionEnd (at_ 0)] }

theorem witness_SlotsStayConserved :
    SlotsConserved running ∧ step running = .next (after (.compositionEnd (at_ 0)) (running.withPending [])) :=
  ⟨⟨by decide, by decide, by decide, by decide, by decide, by decide⟩, rfl⟩

theorem witness_RecordsStayNumbered : RecordsNumbered running ∧ HighMarkBelowCap running := by
  refine ⟨⟨by decide, by decide, fun i r h => ?_⟩, (by decide : 960 ≤ 1000)⟩
  match i, h with
  | 0, h => cases h; decide

theorem witness_ClockFieldsStayConsistent : ClockShape running.clock := by
  refine ⟨⟨⟨_, rfl, rfl⟩, rfl, rfl, rfl⟩, ?_, ?_, ?_, ?_⟩ <;> rintro x h <;> cases h <;> rfl

theorem witness_ClaimsStayWithTracking : ClaimsNeedTracking running :=
  ⟨rfl, fun _ _ => ⟨rfl, rfl⟩, by decide, by decide⟩

theorem witness_NoticesAndDelayedTableStayBounded : NoticesBounded running ∧ DelayedTableKeyed running :=
  ⟨⟨by decide, by decide⟩, by decide, by decide, by decide⟩

theorem witness_TablesStayCanonical : running.storeWf = true ∧ CountersBounded running := by
  refine ⟨by decide, fun c => ?_⟩
  cases c <;> decide

end Sys2Proof.Tests
end

