-- ==== Sys2Proof/Proofs/FailedFrames.lean ====
section
/-! PROOFS. Frames that fail the receiver's first tests (R7, R8): the length field, the check, and the header's form.
One lemma for each test says how the receiver ends there. -/

namespace Sys2Proof.Machine

/-- FRAME_BAD's row runs the whole receiver on the frame. -/
theorem exec_frameBad (e : Env) (f : WireFrame) (s : State) : exec (.frameBad e f) s = .next (s.hearWire e f) := rfl

/-- HEADER_MALFORMED's row runs the whole receiver on the frame. -/
theorem exec_headerMalformed (e : Env) (f : WireFrame) (s : State) :
    exec (.headerMalformed e f) s = .next (s.hearWire e f) := rfl

/-- Hearing a frame moves the time base and leaves its acknowledgement slot alone. -/
theorem State.frameMoment_eq (s : State) (e : Env) :
    s.frameMoment e = { s with now := max s.now e.moment, span := { s.span with ackDriven := false } } := rfl

@[simp] theorem frameTooLong_eq_true (f : WireFrame) : frameTooLong f = true ↔ 2048 < f.len.toNat := by
  simp [frameTooLong]

@[simp] theorem frameTooLong_eq_false (f : WireFrame) : frameTooLong f = false ↔ f.len.toNat ≤ 2048 := by
  simp [frameTooLong]

@[simp] theorem headMalformed_eq_true (h : Header) : headMalformed h = true ↔ h.cls = 7 ∨ h.src = 31 := by
  simp [headMalformed]

/-- A length field over 2,048 is met before the check: reception ends until the next idle gap (R8). -/
theorem State.hearWire_tooLong (s : State) (e : Env) (f : WireFrame) (hl : s.listening = true)
    (hlen : frameTooLong f = true) :
    s.hearWire e f =
      ((s.frameMoment e).withSpan { (s.frameMoment e).span with waitingGap := true }).bump .framesMalformed := by
  simp [State.hearWire, hl, hlen]

/-- A frame cut short or with a bad check is dropped, whatever its header (R7). -/
theorem State.hearWire_bad (s : State) (e : Env) (f : WireFrame) (hl : s.listening = true)
    (hlen : frameTooLong f = false) (hbad : frameShort f = true ∨ checkFails f = true) :
    s.hearWire e f = (s.frameMoment e).bump .framesBad := by
  simp [State.hearWire, hl, hlen, hbad]

/-- A frame with a good check is dropped for its class or its source before its destination is looked at (R8). -/
theorem State.hearWire_headMalformed (s : State) (e : Env) (f : WireFrame) (hl : s.listening = true)
    (hlen : frameTooLong f = false) (hshort : frameShort f = false) (hcheck : checkFails f = false)
    (hhead : headMalformed f.head = true) :
    s.hearWire e f = (s.frameMoment e).bump .framesMalformed := by
  simp [State.hearWire, hl, hlen, hshort, hcheck, hhead]

/-- Settles O4: each clause is the test of R7 or R8 at which the receiver ends. -/
theorem failedFramesDropped : Obligations.FailedFramesDropped := by
  intro e f s hl
  refine ⟨fun hlen hbad => ?bad, fun hlen => ?tooLong, fun hlen hshort hcheck hhead => ?head⟩
  case bad =>
    have hlen' : frameTooLong f = false := (frameTooLong_eq_false f).2 hlen
    rw [exec_frameBad, s.hearWire_bad e f hl hlen' hbad, State.frameMoment_eq]
  case tooLong =>
    have hlen' : frameTooLong f = true := (frameTooLong_eq_true f).2 hlen
    rw [exec_headerMalformed, s.hearWire_tooLong e f hl hlen', State.frameMoment_eq]
    rfl
  case head =>
    have hlen' : frameTooLong f = false := (frameTooLong_eq_false f).2 hlen
    have hhead' : headMalformed f.head = true := (headMalformed_eq_true f.head).2 hhead
    rw [exec_headerMalformed, s.hearWire_headMalformed e f hl hlen' hshort hcheck hhead', State.frameMoment_eq]

end Sys2Proof.Machine
end

