-- ==== Sys2Proof/Proofs/RetryLadder.lean ====
section
/-! PROOFS. The retry ladder (R136): the distance to the next home window is the least of 1 to 75 that reaches it, and
the gap is added in whole laps. -/

namespace Sys2Proof.Machine

/-- With the window its own home the next home window is a lap on, and otherwise the difference counts forward. -/
theorem homeDistance_eq (home window : Nat) (hw : window < 75) (hh : home < 75) :
    homeDistance home window = if window < home then home - window else home + 75 - window := by
  dsimp only [homeDistance]
  split <;> split <;> omega

theorem homeDistance_pos (home window : Nat) : 1 ≤ homeDistance home window := by
  dsimp only [homeDistance]
  split <;> omega

theorem homeDistance_le_lap (home window : Nat) : homeDistance home window ≤ 75 := by
  dsimp only [homeDistance]
  split <;> omega

theorem window_add_homeDistance (home window : Nat) (hw : window < 75) (hh : home < 75) :
    (window + homeDistance home window) % 75 = home := by
  rw [homeDistance_eq home window hw hh]
  split <;> omega

/-- No window nearer than the distance carries the home number: two windows of one number are a whole lap apart, and
both would lie within the lap after `window`. -/
theorem window_add_ne_of_lt_homeDistance (home window x : Nat) (hw : window < 75) (hh : home < 75) (hx : 1 ≤ x)
    (hlt : x < homeDistance home window) : (window + x) % 75 ≠ home := by
  have hle := homeDistance_le_lap home window
  have hreach := window_add_homeDistance home window hw hh
  omega

/-- Settles O34: the model's own distance and gap are the witnesses. -/
theorem retryLadderNotBefore : Obligations.RetryLadderNotBefore := by
  intro serial window home sends hw hh _
  exact ⟨homeDistance home window, ladderGap sends, homeDistance_pos home window, homeDistance_le_lap home window,
    window_add_homeDistance home window hw hh,
    fun x hx hlt => window_add_ne_of_lt_homeDistance home window x hw hh hx hlt, rfl, rfl⟩

end Sys2Proof.Machine
end

