-- ==== Sys2Proof/Proofs/Charges.lean ====
section
/-! PROOFS. The charge (R146): its three stages, the largest value of each, and that none of them falls as its argument
rises. -/

namespace Sys2Proof.Machine

/-! ### The stages -/

theorem charCharge_eq (rate c : Nat) : charCharge rate c = (c * rate + 15) / 16 := rfl

theorem chargeFor_routine (b : Basis) (c : Nat) : chargeFor b .routine c = b.base + charCharge b.rate c := rfl

/-- An URGENT page pays the routine charge and the surcharge on it. -/
theorem chargeFor_urgent (b : Basis) (c : Nat) :
    chargeFor b .urgent c = chargeFor b .routine c + surcharge b.percent (chargeFor b .routine c) := rfl

/-! ### The largest values, for fields of their widths and a message of at most 256 characters -/

theorem chars_mul_rate_le {rate c : Nat} (hrate : rate ≤ 4095) (hc : c ≤ 256) : c * rate ≤ 1048320 :=
  Nat.mul_le_mul hc hrate

theorem charCharge_le {rate c : Nat} (hrate : rate ≤ 4095) (hc : c ≤ 256) : charCharge rate c ≤ 65520 := by
  have hproduct := chars_mul_rate_le hrate hc
  rw [charCharge_eq]
  omega

theorem surcharge_le {percent subtotal : Nat} (hpercent : percent ≤ 255) (hsubtotal : subtotal ≤ 131055) :
    surcharge percent subtotal ≤ 334190 := by
  have hproduct : subtotal * percent ≤ 131055 * 255 := Nat.mul_le_mul hsubtotal hpercent
  unfold surcharge
  omega

theorem chargeFor_routine_le {b : Basis} {c : Nat} (hbase : b.base ≤ 65535) (hrate : b.rate ≤ 4095) (hc : c ≤ 256) :
    chargeFor b .routine c ≤ 131055 := by
  have hchars := charCharge_le hrate hc
  rw [chargeFor_routine]
  omega

theorem chargeFor_urgent_le {b : Basis} {c : Nat} (hbase : b.base ≤ 65535) (hrate : b.rate ≤ 4095)
    (hpercent : b.percent ≤ 255) (hc : c ≤ 256) : chargeFor b .urgent c ≤ 465245 := by
  have hsubtotal := chargeFor_routine_le hbase hrate hc
  have hsurcharge := surcharge_le hpercent hsubtotal
  rw [chargeFor_urgent]
  omega

/-! ### The charge does not rise as the characters fall -/

theorem charCharge_mono (rate : Nat) {c' c : Nat} (h : c' ≤ c) : charCharge rate c' ≤ charCharge rate c :=
  Nat.div_le_div_right (Nat.add_le_add_right (Nat.mul_le_mul_right rate h) 15)

theorem surcharge_mono (percent : Nat) {x y : Nat} (h : x ≤ y) : surcharge percent x ≤ surcharge percent y :=
  Nat.div_le_div_right (Nat.add_le_add_right (Nat.mul_le_mul_right percent h) 50)

theorem chargeFor_mono (b : Basis) (p : Priority) {c' c : Nat} (h : c' ≤ c) : chargeFor b p c' ≤ chargeFor b p c := by
  have hroutine : chargeFor b .routine c' ≤ chargeFor b .routine c :=
    Nat.add_le_add_left (charCharge_mono b.rate h) b.base
  cases p with
  | routine => exact hroutine
  | urgent =>
    rw [chargeFor_urgent, chargeFor_urgent]
    exact Nat.add_le_add hroutine (surcharge_mono b.percent hroutine)

/-- Settles O37: the bounds of the stages in order, the two priorities by their equations, and the monotone charge. -/
theorem chargeBoundedAndMonotone : Obligations.ChargeBoundedAndMonotone := by
  intro base rate percent c plan cls hbase hrate hpercent hc b chars subtotal surcharged
  have hsubtotal : subtotal ≤ 131055 := chargeFor_routine_le (b := b) hbase hrate hc
  exact ⟨chars_mul_rate_le hrate hc, charCharge_le hrate hc, hsubtotal, surcharge_le hpercent hsubtotal,
    chargeFor_routine b c, chargeFor_urgent b c, chargeFor_urgent_le (b := b) hbase hrate hpercent hc,
    fun p _ h => chargeFor_mono b p h⟩

end Sys2Proof.Machine
end

