-- ==== Sys2Proof/Proofs/TariffStage.lean ====
section
/-! PROOFS. TARIFF STAGE (R143, R144): what a write of one class's entry and mark leaves readable, and the tariff tables
after a taken frame in each of the two tariff states. -/

namespace Sys2Proof.Machine

/-! ### One row written, one mark set -/

/-- A write of one row of a table, read back at every key. -/
theorem tableGet_set {α : Type} [DecidableEq α] (t : Table α) (d v : α) (k j : Nat) (h : tableSorted t = true) :
    tableGet (tableSet t d k v) d j = if j = k then v else tableGet t d j := by
  split
  case isTrue hjk => rw [hjk, tableGet_set_same t d v k h]
  case isFalse hjk => exact tableGet_set_other t d v hjk

theorem classMark_getLsbD {c k : Nat} (hk : k < 8) : (classMark c).getLsbD k = decide (k = c) := by
  rw [classMark, BitVec.getLsbD_ofNat, Nat.testBit_two_pow]
  simp [hk, eq_comm]

/-- Setting a class's mark sets that mark and keeps the other seven. -/
theorem getLsbD_or_classMark (marks : BitVec 8) {c k : Nat} (hk : k < 8) :
    (marks ||| classMark c).getLsbD k = (decide (k = c) || marks.getLsbD k) := by
  rw [BitVec.getLsbD_or, classMark_getLsbD hk, Bool.or_comm]

theorem marks_eq_all_iff (marks : BitVec 8) : marks = 0xFF ↔ ∀ k < 8, marks.getLsbD k = true := by
  have hall : ∀ k < 8, (0xFF : BitVec 8).getLsbD k = true := by decide
  constructor
  · rintro rfl
    exact hall
  · intro h
    exact BitVec.eq_of_getLsbD_eq fun k hk => (h k hk).trans (hall k hk).symm

/-- In UNSET the state becomes SET exactly when the class written was the last without a loaded mark (R143). -/
theorem tariffLoad_set_iff (t : Tariffs) (c : Nat) (x : TariffEntry) :
    (tariffLoad t c x).set = true ↔ ∀ k < 8, k = c ∨ t.loaded.getLsbD k = true := by
  have hmarks : (tariffLoad t c x).set = decide (t.loaded ||| classMark c = 0xFF) := rfl
  rw [hmarks, decide_eq_true_iff, marks_eq_all_iff]
  refine forall₂_congr fun k hk => ?_
  rw [getLsbD_or_classMark _ hk, Bool.or_eq_true, decide_eq_true_iff]

/-! ### The frame taken -/

theorem State.takeTariff_charge (s : State) (b : TariffBody) :
    (s.takeTariff b).charge =
      if s.charge.set then tariffStore s.charge b.cls.toNat (tariffOf b)
      else tariffLoad s.charge b.cls.toNat (tariffOf b) := by
  dsimp only [State.takeTariff]
  split <;> simp

theorem State.takeTariff_claims (s : State) (b : TariffBody) : (s.takeTariff b).claims = s.claims :=
  (by simp : KeptBut [.charge, .faults, .stats, .parity] s (s.takeTariff b)) .claims (by simp)

/-- A taken TARIFF STAGE is handed to the Charge Unit, and with no test of R103 outstanding nothing follows. -/
theorem exec_tariffStage_taken (h : Header) (e : Env) (b : TariffBody) (s : State)
    (ht : s.takes h (.tariffStage b) = true) (hidle : s.claims.startTest = false) :
    exec (.tariffStage h e b) s = .next ((s.atFrame h e).takeTariff b) := by
  have hexec : exec (.tariffStage h e b) s = .next (s.hear h e (.tariffStage b) (fun t => t.takeTariff b)) := rfl
  have hidle' : ((s.atFrame h e).takeTariff b).claims.startTest = false := by
    rw [State.takeTariff_claims, State.atFrame_claims, hidle]
  rw [hexec, State.hear_taken s h e _ _ ht, State.testStart_idle _ hidle']

/-- Settles O40: the state after the frame is `takeTariff` of the state in which it is met; its tables are
`tariffLoad` of the old ones in UNSET and `tariffStore` in SET. -/
theorem tariffStageWritesItsClass : Obligations.TariffStageWritesItsClass := by
  intro h e b s ht hidle hactive hstaged c entry
  have hcharge : ((s.atFrame h e).takeTariff b).charge =
      if s.charge.set then tariffStore s.charge c entry else tariffLoad s.charge c entry :=
    State.takeTariff_charge (s.atFrame h e) b
  have hkept : KeptBut [.now, .faults, .stats, .span, .charge, .parity] s ((s.atFrame h e).takeTariff b) :=
    (keptBut_takeTariff b (by simp)).2 ((keptBut_atFrame h e).mono (by simp))
  refine ⟨_, exec_tariffStage_taken h e b s ht hidle, hkept, fun hunset => ?unset, fun hset => ?set⟩
  case unset =>
    rw [hcharge, if_neg (by simp [hunset])]
    exact ⟨fun k => tableGet_set _ _ _ c k hactive, fun k hk => getLsbD_or_classMark _ hk,
      tariffLoad_set_iff s.charge c entry, rfl, rfl⟩
  case set =>
    rw [hcharge, if_pos hset]
    exact ⟨fun k => tableGet_set _ _ _ c k hstaged, fun k hk => getLsbD_or_classMark _ hk, rfl, rfl, hset⟩

end Sys2Proof.Machine
end

section
/-! PROOFS. What a step can do to the tables and queues, said once.

`Change` lists the elementary changes that the operations are made of, with what holds where each is made; `Changes` is
a run of them. Every operation of the engine, and so every command, is such a run. An invariant of the tables and queues
is then proved of each elementary change alone. -/

namespace Sys2Proof.Machine

/-- The parts that no invariant of the tables and queues reads. -/
def otherParts : List Part := [.pending, .now, .faults, .clock, .claims, .tracker]

/-- One elementary change of the state. -/
inductive Change : State → State → Prop where
  /-- Parts that hold no table or queue. -/
  | outside {s t : State} (h : KeptBut otherParts s t) : Change s t
  | unit (s : State) (v : SetupUnit) (h : v.setup = s.unit.setup) : Change s (s.withUnit v)
  /-- The copy of an accepted setup block (R174). -/
  | setup (s : State) (v : SetupUnit) (h : v.setup.highMark ≤ 1000) : Change s (s.withUnit v)
  | count (s : State) (c : Stat) : Change s (s.bump c)
  | countersDropped (s : State) (p : Nat × Nat → Bool) : Change s (s.withStats (s.stats.filter p))
  | parityMadeGood (s : State) (p : Nat × StorePlace → Bool) : Change s (s.withParity (s.parity.filter p))
  /-- Notices join, leave or have a sending counted (R16, R17). -/
  | span (s : State) (v : SpanPort) (hlen : v.notices.length ≤ max Config.noticeCap s.span.notices.length)
      (hold : ∀ n ∈ v.notices, n ∈ s.span.notices ∨ n.attempts ≤ 2) : Change s (s.withSpan v)
  | subscriber (s : State) (index : Nat) (r : Subscriber) :
      Change s (s.withSubs (tableSet s.subs Subscriber.vacant index r))
  | subscribersCleared (s : State) : Change s (s.withSubs [])
  /-- A message record that is not FREE is written. -/
  | message (s : State) (slot : Nat) (m : Msg) (h : (s.msg slot).isSome = true) :
      Change s (s.withStore { s.store with msgs := tablePut s.store.msgs slot m })
  /-- The pool's front is taken for an accepted deposit (R48). -/
  | accepted (s : State) (slot : Nat) (m : Msg) (h : poolFront s.store.pool = some slot) :
      Change s (s.withStore { s.store with pool := poolPop s.store.pool, msgs := tablePut s.store.msgs slot m })
  /-- A finished message's slot goes back to the pool (R78). -/
  | released (s : State) (slot : Nat) (h : (s.msg slot).isSome = true) :
      Change s (s.withStore { s.store with msgs := tableErase s.store.msgs slot, pool := poolPush s.store.pool slot })
  | dueList (s : State) (key : Nat) (l : List Nat) :
      Change s (s.withStore { s.store with due := tableSet s.store.due [] key l })
  /-- The wait list, the cursors or the mark of a departure. -/
  | storeLists (s : State) (v : MsgStore) (hmsgs : v.msgs = s.store.msgs) (hpool : v.pool = s.store.pool)
      (hdue : v.due = s.store.due) : Change s (s.withStore v)
  | storeCleared (s : State) : Change s (s.withStore MsgStore.cold)
  | tariffs (s : State) (v : Tariffs) (ha : tableWf noTariff s.charge.active = true → tableWf noTariff v.active = true)
      (hs : tableWf noTariff s.charge.staged = true → tableWf noTariff v.staged = true) : Change s (s.withCharge v)
  | intakeMark (s : State) (v : Intake) (h : v.table = s.intake.table) : Change s (s.withIntake v)
  /-- A deposit of a new key is latched while a place is free (R40, R42). -/
  | latched (s : State) (d : Delayed) (hroom : s.intake.table.length < Config.delayedCap)
      (hnew : ∀ x ∈ s.intake.table, ¬ (x.origin = d.origin ∧ x.tag = d.tag)) (hchars : d.latched.chars.length ≤ 256) :
      Change s (s.withIntake { s.intake with table := s.intake.table ++ [d] })
  | entriesDropped (s : State) (p : Delayed → Bool) (due : Bool) :
      Change s (s.withIntake { table := s.intake.table.filter p, runDue := due })
  /-- Entries keep their keys and deposits, whatever becomes of their status (R50). -/
  | entriesAnswered (s : State) (f : Delayed → Delayed)
      (h : ∀ d, (f d).origin = d.origin ∧ (f d).tag = d.tag ∧ (f d).latched = d.latched) :
      Change s (s.withIntake { s.intake with table := s.intake.table.map f })
  /-- A record joins a queue that is not full, or below the high mark (R160, R161). -/
  | enqueued (s : State) (v : RecordQueue) (body : RecordBody)
      (hroom : s.occupancy < Config.queueCap ∨ s.occupancy < s.unit.setup.highMark)
      (hrecords : v.records = s.queue.records ++ [⟨s.queue.nextNumber, body⟩])
      (hnext : v.nextNumber = (s.queue.nextNumber + 1) % 16777216) : Change s (s.withQueue v)
  /-- The head record leaves (R162). -/
  | departed (s : State) (v : RecordQueue) (hrecords : v.records = s.queue.records.drop 1)
      (hnext : v.nextNumber = s.queue.nextNumber) : Change s (s.withQueue v)
  | queueMarks (s : State) (v : RecordQueue) (hrecords : v.records = s.queue.records)
      (hnext : v.nextNumber = s.queue.nextNumber) : Change s (s.withQueue v)
  | queueCleared (s : State) : Change s (s.withQueue RecordQueue.cold)

/-- A run of elementary changes. -/
inductive Changes : State → State → Prop where
  | refl (s : State) : Changes s s
  | step {s t u : State} (h : Changes s t) (k : Change t u) : Changes s u

namespace Changes

theorem trans {s t u : State} (h : Changes s t) (k : Changes t u) : Changes s u := by
  induction k with
  | refl => exact h
  | step _ k ih => exact ih.step k

/-- A property that every elementary change keeps is kept by a run of them. -/
theorem keeps {P : State → Prop} (hP : ∀ s t, Change s t → P s → P t) {s t : State} (h : Changes s t) (hs : P s) :
    P t := by
  induction h with
  | refl => exact hs
  | step _ hc ih => exact hP _ _ hc ih

theorem foldl {α : Type} {f : State → α → State} {s : State} (hf : ∀ t x, Changes s t → Changes s (f t x))
    (l : List α) {t : State} (h : Changes s t) : Changes s (l.foldl f t) := by
  induction l generalizing t with
  | nil => exact h
  | cons x l ih => exact ih (hf t x h)

variable {s t : State}

theorem outside (h : Changes s t) {u : State} (k : KeptBut otherParts t u) : Changes s u := h.step (.outside k)

theorem ite {c : Prop} [Decidable c] {a b : State} (ha : c → Changes s a) (hb : ¬ c → Changes s b) :
    Changes s (if c then a else b) := by
  split
  · exact ha ‹_›
  · exact hb ‹_›

/-! ### The parts outside the tables and queues -/

theorem withPending (h : Changes s t) (v : List Instr) : Changes s (t.withPending v) :=
  h.outside ((keptBut_withPending v (by simp [otherParts])).2 (.refl _ _))
theorem withClaims (h : Changes s t) (v : ClaimBuilder) : Changes s (t.withClaims v) :=
  h.outside ((keptBut_withClaims v (by simp [otherParts])).2 (.refl _ _))
theorem withTracker (h : Changes s t) (v : Tracker) : Changes s (t.withTracker v) :=
  h.outside ((keptBut_withTracker v (by simp [otherParts])).2 (.refl _ _))
theorem withClock (h : Changes s t) (v : Clock) : Changes s (t.withClock v) :=
  h.outside ((keptBut_withClock v (by simp [otherParts])).2 (.refl _ _))
theorem withFaults (h : Changes s t) (v : Faults) : Changes s (t.withFaults v) :=
  h.outside ((keptBut_withFaults v (by simp [otherParts])).2 (.refl _ _))
theorem advance (h : Changes s t) (moment : Nat) : Changes s (t.advance moment) :=
  h.outside ((keptBut_advance moment (by simp [otherParts])).2 (.refl _ _))
theorem wake (h : Changes s t) : Changes s t.wake :=
  h.outside ((keptBut_wake (by simp [otherParts])).2 (.refl _ _))
theorem wakeAt (h : Changes s t) (window : Nat) : Changes s (t.wakeAt window) :=
  h.outside ((keptBut_wakeAt window (by simp [otherParts])).2 (.refl _ _))
theorem chooseFeed (h : Changes s t) (c : Composition) : Changes s (t.chooseFeed c) :=
  h.outside ((keptBut_chooseFeed c (by simp [otherParts])).2 (.refl _ _))
theorem cursorMoved (h : Changes s t) (f : Feed) : Changes s (t.cursorMoved f) :=
  h.outside ((keptBut_cursorMoved f (by simp [otherParts])).2 (.refl _ _))
theorem stayWith (h : Changes s t) (c : Composition) (f : Feed) : Changes s (t.stayWith c f) :=
  h.outside ((keptBut_stayWith c f (by simp [otherParts])).2 (.refl _ _))
theorem blockSub (h : Changes s t) (index : Nat) (f : Feed) : Changes s (t.blockSub index f) := h.withClaims _
theorem composeEnd (h : Changes s t) : Changes s t.composeEnd :=
  h.outside ((keptBut_composeEnd (by simp [otherParts])).2 (.refl _ _))
theorem removeEntry (h : Changes s t) (slot : Nat) : Changes s (t.removeEntry slot) :=
  h.outside ((keptBut_removeEntry slot (by simp [otherParts])).2 (.refl _ _))
theorem releaseReservation (h : Changes s t) (slot : Nat) : Changes s (t.releaseReservation slot) :=
  h.outside ((keptBut_releaseReservation slot (by simp [otherParts])).2 (.refl _ _))
theorem addBetween (h : Changes s t) (slot : Nat) (m : Msg) : Changes s (t.addBetween slot m) :=
  h.outside ((keptBut_addBetween slot m (by simp [otherParts])).2 (.refl _ _))
theorem restoreEntry (h : Changes s t) (slot : Nat) (m : Msg) : Changes s (t.restoreEntry slot m) :=
  h.outside ((keptBut_restoreEntry slot m (by simp [otherParts])).2 (.refl _ _))
theorem reserve (h : Changes s t) (slot : Nat) (m : Msg) : Changes s (t.reserve slot m) := h.withTracker _
theorem faultExpiry (h : Changes s t) : Changes s t.faultExpiry :=
  h.outside ((keptBut_faultExpiry (by simp [otherParts])).2 (.refl _ _))
theorem ownClaim (h : Changes s t) : Changes s t.ownClaim := h.withClaims _
theorem toWaiting (h : Changes s t) (i : Item) (deadline : Serial) : Changes s (t.toWaiting i deadline) :=
  h.withTracker _

/-! ### Counters, faults and parity -/

theorem bump (h : Changes s t) (c : Stat) : Changes s (t.bump c) := h.step (.count t c)

theorem latch (h : Changes s t) (c : Cause) : Changes s (t.latch c) := (h.withFaults _).bump _

theorem parityError (h : Changes s t) (address : Nat) : Changes s (t.parityError address) :=
  .ite (fun _ => ((h.latch .storeParity).bump .storeErrors).withFaults _) (fun _ => h)

theorem noteReads (h : Changes s t) (places : List StorePlace) : Changes s (t.noteReads places) :=
  foldl (fun _ a k => k.parityError a) _ h

theorem rewrite (h : Changes s t) (places : List StorePlace) : Changes s (t.rewrite places) := by
  have k := (h.noteReads (places.filter StorePlace.readFirst)).step
    (.parityMadeGood _ (fun b => decide (b.2 ∉ places)))
  rwa [State.noteReads_parity] at k

theorem relink (h : Changes s t) (slots : List (Option Nat)) : Changes s (t.relink slots) := h.rewrite _

theorem raiseClock (h : Changes s t) (c : Clock) : Changes s (t.raiseClock c) := (h.withClock c).rewrite _

/-! ### Records, lists and queues -/

theorem putSub (h : Changes s t) (index : Nat) (r : Subscriber) : Changes s (t.putSub index r) :=
  (h.step (.subscriber t index r)).rewrite _

theorem putMsg (h : Changes s t) {slot : Nat} (m : Msg) (hm : (t.msg slot).isSome = true) :
    Changes s (t.putMsg slot m) := (h.step (.message t slot m hm)).rewrite _

theorem storeLists (h : Changes s t) (v : MsgStore) (hmsgs : v.msgs = t.store.msgs := by rfl)
    (hpool : v.pool = t.store.pool := by rfl) (hdue : v.due = t.store.due := by rfl) : Changes s (t.withStore v) :=
  h.step (.storeLists t v hmsgs hpool hdue)

theorem putCursor (h : Changes s t) (f : Feed) (c : Option Nat) : Changes s (t.putCursor f c) :=
  h.storeLists _

theorem putDue (h : Changes s t) (key : Nat) (l : List Nat) : Changes s (t.putDue key l) :=
  have k := h.step (.dueList t key l)
  .ite (fun _ => k) (fun _ => k.rewrite _)

theorem span (h : Changes s t) (v : SpanPort) (hn : v.notices = t.span.notices := by rfl) : Changes s (t.withSpan v) :=
  h.step (.span t v (by rw [hn]; exact Nat.le_max_right _ _) (fun n hm => .inl (hn ▸ hm)))

theorem queueMarks (h : Changes s t) (v : RecordQueue) (hrecords : v.records = t.queue.records := by rfl)
    (hnext : v.nextNumber = t.queue.nextNumber := by rfl) : Changes s (t.withQueue v) :=
  h.step (.queueMarks t v hrecords hnext)

theorem putSweep (h : Changes s t) (w : Option Sweep) : Changes s (t.putSweep w) :=
  (h.queueMarks _).rewrite _

theorem withUnit (h : Changes s t) (v : SetupUnit) (hv : v.setup = t.unit.setup := by rfl) : Changes s (t.withUnit v) :=
  h.step (.unit t v hv)

theorem intakeMark (h : Changes s t) (v : Intake) (hv : v.table = t.intake.table := by rfl) :
    Changes s (t.withIntake v) :=
  h.step (.intakeMark t v hv)

end Changes

theorem length_dropOldest_le (onAir : Option OnAir) (q : List Notice) (h : 2 ≤ q.length) :
    (dropOldest onAir q).length + 1 ≤ q.length := by
  unfold dropOldest
  split
  · rename_i head rest
    simp only [List.length_cons, List.length_drop] at h ⊢
    omega
  · simp only [List.length_drop]
    omega

theorem mem_of_mem_dropOldest {onAir : Option OnAir} {q : List Notice} {n : Notice} (h : n ∈ dropOldest onAir q) :
    n ∈ q := by
  unfold dropOldest at h
  split at h
  · rcases List.mem_cons.1 h with rfl | h
    · exact List.mem_cons_self
    · exact List.mem_cons_of_mem _ (List.mem_of_mem_drop h)
  · exact List.mem_of_mem_drop h

namespace Changes

variable {s t : State}

theorem addNotice (h : Changes s t) (dest : Nat) (body : NoticeBody) : Changes s (t.addNotice dest body) := by
  have hold : ∀ (l : List Notice), (∀ n ∈ l, n ∈ t.span.notices) → ∀ n ∈ l ++ [⟨dest, body, 0⟩],
      n ∈ t.span.notices ∨ n.attempts ≤ 2 := by
    intro l hl n hn
    rcases List.mem_append.1 hn with hn | hn
    · exact .inl (hl n hn)
    · rw [List.mem_singleton.1 hn]
      exact .inr (Nat.zero_le 2)
  by_cases hroom : t.span.notices.length < 32
  case pos =>
    rw [t.addNotice_room dest body hroom]
    refine h.step (.span t _ ?_ (hold _ fun n hn => hn))
    simp only [List.length_append, List.length_singleton, Config.noticeCap]
    omega
  case neg =>
    rw [t.addNotice_full dest body hroom]
    refine (h.step (.span t _ ?_ (hold _ fun n hn => mem_of_mem_dropOldest hn))).bump _
    have hlen := length_dropOldest_le t.span.onAir t.span.notices (by omega)
    simp only [List.length_append, List.length_singleton, Config.noticeCap]
    omega

theorem queryAnswer (h : Changes s t) (src tag : Nat) (kind : QueryKind) (c : QueryContents) :
    Changes s (t.queryAnswer src tag kind c) := h.addNotice _ _

theorem loadAnswer (h : Changes s t) (src index : Nat) (b : LoadBody) (code : LoadCode) (reason : BusyReason)
    (released : Nat) : Changes s (t.loadAnswer src index b code reason released) := h.addNotice _ _

/-- A record is added only with room for it, or below the high mark, which the setup block keeps below the capacity. -/
theorem enqueue (h : Changes s t) (body : RecordBody)
    (hroom : t.occupancy < Config.queueCap ∨ t.occupancy < t.unit.setup.highMark) : Changes s (t.enqueue body) := by
  unfold State.enqueue
  dsimp only
  refine rewrite ?_ _
  exact .ite (fun _ => h.step (.enqueued t _ body hroom rfl rfl)) (fun _ => h.step (.enqueued t _ body hroom rfl rfl))

end Changes

end Sys2Proof.Machine
end

section
/-! The shared operations and the meanings of the commands, each as a run of elementary changes. -/

namespace Sys2Proof.Machine

/-! ### What a message reads as across an operation that writes no message record -/

theorem State.msg_of_keptBut {ps : List Part} {s t : State} (h : KeptBut ps s t) (hp : Part.store ∉ ps) (k : Nat) :
    t.msg k = s.msg k := State.msg_congr (h .store hp) k

@[simp] theorem State.msg_bump (s : State) (c : Stat) (k : Nat) : (s.bump c).msg k = s.msg k := rfl
@[simp] theorem State.msg_advance (s : State) (n k : Nat) : (s.advance n).msg k = s.msg k := rfl
@[simp] theorem State.msg_putSub (s : State) (i : Nat) (r : Subscriber) (k : Nat) : (s.putSub i r).msg k = s.msg k :=
  s.msg_of_keptBut ((keptBut_putSub (ps := [.subs, .faults, .stats, .parity]) i r (by simp)).2 (.refl _ _)) (by simp) k
@[simp] theorem State.msg_relink (s : State) (l : List (Option Nat)) (k : Nat) : (s.relink l).msg k = s.msg k :=
  State.msg_congr (s.relink_store l) k
@[simp] theorem State.msg_noteReads (s : State) (l : List StorePlace) (k : Nat) : (s.noteReads l).msg k = s.msg k :=
  State.msg_congr (s.noteReads_store l) k
@[simp] theorem State.msg_rewrite (s : State) (l : List StorePlace) (k : Nat) : (s.rewrite l).msg k = s.msg k :=
  State.msg_congr (s.rewrite_store l) k
@[simp] theorem State.msg_putDue (s : State) (key : Nat) (l : List Nat) (k : Nat) :
    (s.putDue key l).msg k = s.msg k := by
  simp [State.msg]
@[simp] theorem State.msg_removeEntry (s : State) (slot k : Nat) : (s.removeEntry slot).msg k = s.msg k :=
  s.msg_of_keptBut ((keptBut_removeEntry (ps := [.tracker, .claims]) slot (by simp)).2 (.refl _ _)) (by simp) k
@[simp] theorem State.msg_releaseReservation (s : State) (slot k : Nat) :
    (s.releaseReservation slot).msg k = s.msg k :=
  s.msg_of_keptBut ((keptBut_releaseReservation (ps := [.tracker, .claims]) slot (by simp)).2 (.refl _ _)) (by simp) k
@[simp] theorem State.msg_enqueue (s : State) (b : RecordBody) (k : Nat) : (s.enqueue b).msg k = s.msg k :=
  s.msg_of_keptBut ((keptBut_enqueue (ps := [.queue, .faults, .stats, .parity]) b (by simp)).2 (.refl _ _)) (by simp) k
@[simp] theorem State.msg_addNotice (s : State) (d : Nat) (b : NoticeBody) (k : Nat) :
    (s.addNotice d b).msg k = s.msg k :=
  s.msg_of_keptBut ((keptBut_addNotice (ps := [.span, .stats]) d b (by simp)).2 (.refl _ _)) (by simp) k
@[simp] theorem State.msg_withTracker (s : State) (v : Tracker) (k : Nat) : (s.withTracker v).msg k = s.msg k := rfl
@[simp] theorem State.msg_withClaims (s : State) (v : ClaimBuilder) (k : Nat) : (s.withClaims v).msg k = s.msg k := rfl
@[simp] theorem State.msg_withUnit (s : State) (v : SetupUnit) (k : Nat) : (s.withUnit v).msg k = s.msg k := rfl
@[simp] theorem State.msg_putCursor (s : State) (f : Feed) (c : Option Nat) (k : Nat) :
    (s.putCursor f c).msg k = s.msg k := rfl

theorem State.roomFor_iff (s : State) (n : Nat) : s.roomFor n = true ↔ s.occupancy + n ≤ Config.queueCap := by
  simp [State.roomFor]

namespace Changes

variable {s t : State}

/-! ### Due lists -/

theorem joinDue (h : Changes s t) (slot : Nat) (f : Feed) : Changes s (t.joinDue slot f) := by
  unfold State.joinDue
  split
  · exact h
  · next m hm =>
    have hm' : ((t.putDue (dueKey (t.sub m.subIndex).homeWindow f)
        (t.dueList (dueKey (t.sub m.subIndex).homeWindow f) ++ [slot])).msg slot).isSome = true := by simp [hm]
    have k := ((h.putDue _ _).putMsg { m with feed := some f } hm').relink
      [(t.dueList (dueKey (t.sub m.subIndex).homeWindow f)).getLast?]
    exact wakeAt (.ite (fun _ => k.putCursor _ _) (fun _ => k)) _

theorem leaveDue (h : Changes s t) (slot : Nat) : Changes s (t.leaveDue slot) := by
  unfold State.leaveDue
  split
  · exact h
  · next m hm =>
    split
    · exact h
    · next f _ =>
      have hm' : ((t.putDue (dueKey (t.sub m.subIndex).homeWindow f)
          ((t.dueList (dueKey (t.sub m.subIndex).homeWindow f)).erase slot)).msg slot).isSome = true := by simp [hm]
      have k := ((h.putDue _ _).putMsg { m with feed := none } hm').relink
        [prevIn slot (t.dueList (dueKey (t.sub m.subIndex).homeWindow f)),
          nextIn slot (t.dueList (dueKey (t.sub m.subIndex).homeWindow f))]
      exact .ite (fun _ => (k.putCursor _ _).cursorMoved _) (fun _ => k)

/-! ### Settlement -/

theorem release (h : Changes s t) (slot : Nat) (m : Msg) (o : NoticeBody) (hm : (t.msg slot).isSome = true) :
    Changes s (t.release slot m o) := by
  have k := ((h.addNotice m.origin o).putSub m.subIndex
    { (t.addNotice m.origin o).sub m.subIndex with
      pendingList := ((t.addNotice m.origin o).sub m.subIndex).pendingList.erase slot }).relink
    [prevIn slot ((t.addNotice m.origin o).sub m.subIndex).pendingList,
      nextIn slot ((t.addNotice m.origin o).sub m.subIndex).pendingList]
  exact ((k.step (.released _ slot (by simpa using hm))).rewrite _).intakeMark _

theorem queueUsage (h : Changes s t) (slot : Nat) (hroom : t.roomFor 1 = true) : Changes s (t.queueUsage slot) := by
  unfold State.queueUsage
  refine noteReads ?_ _
  split
  · next m hm =>
    split
    · have hcap : t.occupancy < Config.queueCap := (State.roomFor_iff t 1).1 hroom
      exact (h.enqueue _ (.inl hcap)).release slot m _ (by simp [hm])
    · exact h
  · exact h

theorem offerUsage (h : Changes s t) (slot : Nat) : Changes s (t.offerUsage slot) := by
  refine noteReads (.ite (fun hroom => ?_) (fun _ => ?_)) _
  · exact h.queueUsage slot (Bool.and_eq_true _ _ ▸ hroom).1
  · exact ((h.storeLists { t.store with waitList := t.store.waitList ++ [slot] }).rewrite _).relink _

theorem settle (h : Changes s t) (slot : Nat) : Changes s (t.settle slot) := by
  unfold State.settle
  split
  · next m hm =>
    split
    · exact ((((h.putSub _ _).putMsg _ (by simp [hm]))).offerUsage slot).noteReads _
    · exact h
  · exact h

theorem enterFinishing (h : Changes s t) {slot : Nat} (m : Msg) (ending : Ending) (hm : (t.msg slot).isSome = true) :
    Changes s (t.enterFinishing slot m ending) :=
  (((h.putMsg _ hm).removeEntry slot).leaveDue slot).noteReads _

theorem finishUnlinked (h : Changes s t) {slot : Nat} (m : Msg) (ending : Ending) (hm : (t.msg slot).isSome = true) :
    Changes s (t.finishUnlinked slot m ending) := (h.enterFinishing m ending hm).settle slot

/-! ### Reverts and abandonment -/

theorem revert (h : Changes s t) (slot : Nat) : Changes s (t.revert slot) := by
  unfold State.revert
  split
  · exact h
  · next m hm =>
    have hsome : (t.msg slot).isSome = true := by simp [hm]
    dsimp only
    split
    · exact (h.putMsg _ hsome).wakeAt _
    · exact (h.putMsg _ hsome).wakeAt _
    · exact .ite (fun _ => h.finishUnlinked _ _ hsome) (fun _ => (h.putMsg _ hsome).wakeAt _)
    · exact h.putMsg _ hsome
    · exact (h.putMsg _ hsome).settle slot
    · exact h.putMsg _ hsome

theorem dropItem (h : Changes s t) (i : Item) : Changes s (t.dropItem i) :=
  (revert (.ite (fun _ => h.releaseReservation _) (fun _ => h)) _).noteReads _

theorem abandonWork (h : Changes s t) (c : Composition) : Changes s (t.abandonWork c) :=
  ((foldl (fun _ i k => k.dropItem i) c.items h).withClaims _).span _

theorem abandon (h : Changes s t) : Changes s t.abandon := by
  unfold State.abandon
  split
  · exact h.abandonWork _
  · exact (h.abandonWork _).bump _
  · exact h

theorem finishNoting (h : Changes s t) (slot : Nat) (ending : Ending) {note : State → State}
    (hnote : ∀ u, Changes s u → Changes s (note u)) : Changes s (t.finishNoting slot ending note) := by
  unfold State.finishNoting
  split
  · exact h
  · next m hm =>
    have k := hnote _ (h.enterFinishing (slot := slot) m ending (by simp [hm]))
    split
    · exact h
    · exact k.settle slot
    · exact k.abandon
    · exact k.abandon
    · exact k

theorem finish (h : Changes s t) (slot : Nat) (ending : Ending) : Changes s (t.finish slot ending) :=
  h.finishNoting slot ending fun _ k => k

/-! ### Sends -/

theorem rest (h : Changes s t) {slot : Nat} (m : Msg) (notBefore : Serial) (hm : (t.msg slot).isSome = true) :
    Changes s (t.rest slot m notBefore) := ((h.putMsg _ hm).leaveDue slot).joinDue slot _

theorem markSent (h : Changes s t) (i : Item) : Changes s (t.markSent i) := by
  refine noteReads ?_ _
  split
  · exact h
  · next m hm =>
    have hsome : (t.msg i.slot).isSome = true := by simp [hm]
    split
    · exact h.putMsg _ hsome
    · exact h.putMsg _ hsome
    · exact h

theorem carryItem (n : Serial) (h : Changes s t) (i : Item) : Changes s (State.carryItem n t i) := by
  have hmsg : ((if i.first then t.releaseReservation i.slot else t).msg i.slot) = t.msg i.slot := by split <;> simp
  have k : Changes s (if i.first then t.releaseReservation i.slot else t) :=
    .ite (fun _ => h.releaseReservation _) (fun _ => h)
  unfold State.carryItem
  dsimp only
  refine bump (noteReads ?_ _) _
  split
  · exact k
  · next m hm =>
    rw [hm] at hmsg
    have hsome : ((if i.first then t.releaseReservation i.slot else t).msg i.slot).isSome = true := by rw [hmsg]; rfl
    split
    · exact (k.putMsg _ hsome).settle _
    · exact k.putMsg _ hsome
    · refine .ite (fun _ => k.finishUnlinked _ _ hsome) (fun _ => .ite (fun _ => ?_) (fun _ => .ite (fun _ => ?_)
        (fun _ => ?_)))
      · exact ((h.toWaiting i _).putMsg _ (by simp [State.toWaiting, hm])).leaveDue _
      · exact k.rest _ _ hsome
      · exact k.finishUnlinked _ _ hsome
    · exact k.putMsg _ hsome

theorem spillItem (h : Changes s t) (i : Item) : Changes s (t.spillItem i) := (h.dropItem i).bump _

/-! ### The composition of a claim -/

theorem startComposition (h : Changes s t) (w : WindowRec) : Changes s (t.startComposition w) :=
  ((h.withClaims _).storeLists _).noteReads _

theorem testStart (h : Changes s t) : Changes s t.testStart := by
  unfold State.testStart
  split
  · have k := h.withClaims { t.claims with startTest := false }
    dsimp only
    split
    · exact .ite (fun _ => k.startComposition _) (fun _ => k)
    · exact k
  · exact h

end Changes

/-- An item that the table of R104 takes is of the message judged. -/
theorem State.judge_take_slot {s : State} {c : Composition} {w : WindowRec} {f : Feed} {slot : Nat} {m : Msg} {i : Item}
    (h : s.judge c w f slot m = .take i) : i.slot = slot := by
  have hfit : ∀ first, s.judgeFit c w slot m first = .take i → i.slot = slot := by
    intro first hf
    unfold State.judgeFit at hf
    dsimp only at hf
    split at hf
    · cases hf
    · split at hf <;> cases hf
      rfl
  unfold State.judge at h
  dsimp only at h
  repeat' split at h
  all_goals grind

namespace Changes

variable {s t : State}

theorem takeItem (h : Changes s t) (c : Composition) (w : WindowRec) (f : Feed) (m : Msg) (i : Item)
    (hm : (t.msg i.slot).isSome = true) : Changes s (t.takeItem c w f m i) :=
  have k := h.putMsg { m with link := some ⟨w.serial, w.sent, c.items.length⟩ } hm
  (ite (fun _ => k.reserve _ _) (fun _ => k)).withClaims _

theorem treatMessage (h : Changes s t) (c : Composition) (w : WindowRec) (f : Feed) (slot : Nat) (m : Msg)
    (hm : t.msg slot = some m) : Changes s (t.treatMessage c w f slot m) := by
  unfold State.treatMessage
  split
  · exact h.stayWith _ _
  · exact (h.finish _ _).stayWith _ _
  · exact (h.blockSub _ _).stayWith _ _
  · exact ((h.blockSub _ _).bump _).stayWith _ _
  · exact ((h.blockSub _ _).latch _).stayWith _ _
  · next i hi => exact h.takeItem c w f m i (by rw [State.judge_take_slot hi, hm]; rfl)

theorem composeStep (h : Changes s t) : Changes s t.composeStep := by
  unfold State.composeStep
  split
  · refine .ite (fun _ => h) (fun _ => ?_)
    split
    · split
      · dsimp only
        refine noteReads ?_ _
        split
        · next m hm => exact ((h.withClaims _).putCursor _ _).treatMessage _ _ _ _ m hm
        · exact ((h.withClaims _).putCursor _ _).stayWith _ _
      · exact h
    · exact h
  · exact h

/-! ### Windows -/

theorem missingCarried (n : Serial) (h : Changes s t) (c : ClaimRec) : Changes s (State.missingCarried n t c) :=
  .ite (fun _ => h) (fun _ => (foldl (fun _ i k => carryItem n k i) _ h).bump _)

theorem missingSpilled (h : Changes s t) (c : ClaimRec) : Changes s (t.missingSpilled c) :=
  .ite (fun _ => h) (fun _ => (foldl (fun _ i k => k.spillItem i) _ h).bump _)

theorem voidClaim (h : Changes s t) (c : ClaimRec) : Changes s (t.voidClaim c) :=
  .ite (fun _ => h) (fun _ => (foldl (fun _ i k => k.dropItem i) _ h).bump _)

theorem resolveAt (h : Changes s t) (serial : Serial) {one : State → ClaimRec → State}
    (hone : ∀ u c, Changes s u → Changes s (one u c)) : Changes s (t.resolveAt serial one) := by
  have hclosed : Changes s (match t.claims.closedWin with
      | some w =>
        if w.serial = serial then
          let r := w.claims.foldl one t
          r.withClaims { r.claims with closedWin := none }
        else t
      | none => t) := by
    split
    · exact .ite (fun _ => (foldl hone _ h).withClaims _) (fun _ => h)
    · exact h
  unfold State.resolveAt
  dsimp only
  split
  · exact .ite (fun _ => (foldl hone _ hclosed.abandon).withClaims _) (fun _ => hclosed)
  · exact hclosed

theorem closeAt (h : Changes s t) (serial : Serial) : Changes s (t.closeAt serial) := by
  unfold State.closeAt
  split
  · exact .ite (fun _ => h.abandon.withClaims _) (fun _ => h)
  · exact h

theorem expireUnclaimed (n : Serial) (h : Changes s t) (slot : Nat) : Changes s (State.expireUnclaimed n t slot) := by
  refine noteReads ?_ _
  split
  · exact .ite (fun _ => h.finish _ _) (fun _ => h)
  · exact h

theorem expireList (window : Nat) (n : Serial) (h : Changes s t) (f : Feed) :
    Changes s (State.expireList window n t f) := (foldl (fun _ x k => expireUnclaimed n k x) _ h).noteReads _

theorem openWindow (h : Changes s t) (air : AirTime) (serial : Serial) (plan : AirPlan) :
    Changes s (t.openWindow air serial plan) :=
  (foldl (fun _ f k => expireList _ _ k f) _ (h.withClaims _)).withClaims _

theorem claimsOnMark (h : Changes s t) (serial : Serial) (ahead : AirTime) (plan : AirPlan) :
    Changes s (t.claimsOnMark serial ahead plan) :=
  ((h.resolveAt serial fun _ c k => missingCarried serial k c).closeAt _).openWindow _ _ _

theorem claimsOnCoast (h : Changes s t) (serial : Serial) : Changes s (t.claimsOnCoast serial) :=
  ((h.resolveAt serial fun _ c k => k.missingSpilled c).abandon).withClaims _

theorem voidAll (h : Changes s t) : Changes s t.voidAll :=
  (foldl (fun _ c k => k.voidClaim c) _ h.abandon).withClaims _

theorem takeClaim (h : Changes s t) (src : Nat) (b : ClaimBody) : Changes s (t.takeClaim src b) := by
  unfold State.takeClaim
  dsimp only
  have k (onWindow : Bool) : Changes s (if onWindow then
      t.withClaims { t.claims with fill := addFill t.claims.fill b.items } else t.bump .claimsOffWindow) :=
    .ite (fun _ => h.withClaims _) (fun _ => h.bump _)
  exact .ite (fun _ => (k _).ownClaim) (fun _ => .ite (fun _ => (k _).abandon) (fun _ => k _))

theorem keepSent (h : Changes s t) (w : WindowRec) (c : Composition) : Changes s (t.keepSent w c) :=
  ((foldl (fun _ i k => k.markSent i) c.items h).withClaims _).bump _

theorem claimSent (h : Changes s t) : Changes s t.claimSent := by
  unfold State.claimSent
  split
  · have k := h.span { t.span with onAir := none }
    refine .ite (fun _ => k.bump _) (fun _ => ?_)
    split
    · exact k.keepSent _ _
    · exact k
  · exact h

theorem settleClaim (h : Changes s t) (n : Serial) (c : ClaimRec) (accepted : Nat) :
    Changes s (t.settleClaim n c accepted) :=
  foldl (fun _ i k => k.spillItem i) _ (foldl (fun _ i k => carryItem n k i) _ h)

theorem reportEntry (air : AirTime) (h : Changes s t) (x : ReportEntry) : Changes s (State.reportEntry air t x) := by
  refine .ite (fun _ => h) (fun _ => ?_)
  dsimp only
  split
  · split
    · exact (h.withClaims _).settleClaim _ _ _
    · exact h
  · split
    · exact (h.withClaims _).settleClaim _ _ _
    · exact h
  · exact h

/-! ### The Tracker -/

theorem restAtDeadline (h : Changes s t) {slot : Nat} (m : Msg) (n : Serial) (hm : (t.msg slot).isSome = true) :
    Changes s (t.restAtDeadline slot m n) := (h.withTracker _).rest m n hm

theorem decideDeadline (h : Changes s t) (serial : Serial) (window : Nat) {slot : Nat} (m : Msg)
    (hm : (t.msg slot).isSome = true) : Changes s (t.decideDeadline serial window slot m) :=
  .ite (fun _ => h.finish _ _) (fun _ => .ite (fun _ => h.finish _ _) (fun _ => .ite
    (fun _ => h.restAtDeadline _ _ hm) (fun _ => h)))

theorem meetDeadline (serial : Serial) (window : Nat) (h : Changes s t) (slot : Nat) :
    Changes s (State.meetDeadline serial window t slot) := by
  unfold State.meetDeadline
  split
  · refine .ite (fun _ => noteReads ?_ _) (fun _ => h)
    split
    · next m hm => exact (h.bump _).decideDeadline _ _ _ (by rw [hm]; rfl)
    · exact h.bump _
  · exact h

theorem trackerOnWindow (h : Changes s t) (serial : Serial) (window : Nat) :
    Changes s (t.trackerOnWindow serial window) := foldl (fun _ x k => meetDeadline serial window k x) _ h

theorem applyHeard (h : Changes s t) (b : HeardBody) {slot : Nat} (m : Msg) (hm : (t.msg slot).isSome = true) :
    Changes s (t.applyHeard b slot m) := by
  unfold State.applyHeard
  dsimp only
  have k1 : Changes s (if addHeld m b.held = m then t else t.putMsg slot (addHeld m b.held)) :=
    .ite (fun _ => h) (fun _ => h.putMsg _ hm)
  generalize (if addHeld m b.held = m then t else t.putMsg slot (addHeld m b.held)) = u at k1 ⊢
  have k2 (best : LastHeard) : Changes s ((if (u.sub m.subIndex).lastHeard = some best then u
      else u.putSub m.subIndex { u.sub m.subIndex with lastHeard := some best }).noteReads [.serial]) :=
    noteReads (.ite (fun _ => k1) (fun _ => k1.putSub _ _)) _
  exact .ite (fun _ => (k2 _).finish _ _) (fun _ => k2 _)

theorem takeHeard (h : Changes s t) (b : HeardBody) : Changes s (t.takeHeard b) := by
  unfold State.takeHeard
  split
  · exact h.bump _
  · next x _ =>
    dsimp only
    refine noteReads ?_ _
    have k : Changes s (if isBetween x then (t.bump .heardMatched).bump .lateHeards else t.bump .heardMatched) :=
      .ite (fun _ => (h.bump _).bump _) (fun _ => h.bump _)
    split
    · next m hm => exact k.applyHeard b m (by rw [hm]; rfl)
    · exact k

/-! ### The Window Clock -/

theorem inOrder (e : Env) {claims tracker : State → State} (h : Changes s t)
    (hc : ∀ u, Changes s u → Changes s (claims u)) (ht : ∀ u, Changes s u → Changes s (tracker u)) :
    Changes s (Machine.inOrder e claims tracker t) := .ite (fun _ => hc _ (ht _ h)) (fun _ => ht _ (hc _ h))

theorem announceMark (h : Changes s t) (e : Env) (serial : Serial) (air : AirTime) (plan : AirPlan) :
    Changes s (t.announceMark e serial air plan) :=
  h.inOrder e (fun _ k => k.claimsOnMark _ _ _) (fun _ k => k.trackerOnWindow _ _)

theorem announceCoast (h : Changes s t) (e : Env) (serial : Serial) (air : AirTime) :
    Changes s (t.announceCoast e serial air) :=
  h.inOrder e (fun _ k => k.claimsOnCoast _) (fun _ k => k.trackerOnWindow _ _)

theorem beginByMark (h : Changes s t) (e : Env) (air : AirTime) (arrival : Nat) (plan : AirPlan) :
    Changes s (t.beginByMark e air arrival plan) := (h.raiseClock _).announceMark _ _ _ _

theorem takeMark (h : Changes s t) (e : Env) (b : MarkBody) : Changes s (t.takeMark e b) := by
  unfold State.takeMark
  split
  · unfold State.markInSearch
    split
    · exact h.withClock _
    · exact .ite (fun _ => h) (fun _ => .ite (fun _ => (h.bump _).beginByMark _ _ _ _) (fun _ => h.withClock _))
  · unfold State.markInStep
    dsimp only
    refine .ite (fun _ => ?_) (fun _ => .ite (fun _ => .ite (fun _ => h.bump _)
      (fun _ => .ite (fun _ => h.beginByMark _ _ _ _) (fun _ => h))) (fun _ => ?_))
    · split
      · exact h
      · exact h.bump _
    · exact .ite (fun _ => ((h.bump _).voidAll).beginByMark _ _ _ _) (fun _ => (h.bump _).withClock _)
  · exact h

theorem coast (h : Changes s t) (e : Env) : Changes s (t.coast e) := by
  unfold State.coast
  split
  · exact h
  · exact h
  · next cur _ _ =>
    dsimp only
    have k := ((h.advance e.moment).advance (cur.start + Config.windowMs + Config.toleranceMs)).bump .marksMissed
    exact .ite (fun _ => (k.raiseClock _).announceCoast _ _ _)
      (fun _ => (((k.latch _).bump _).withClock _).voidAll)

/-! ### The Intake Unit -/

theorem applyHold (h : Changes s t) (index number e : Nat)
    (hroom : t.occupancy < Config.queueCap ∨ t.occupancy < t.unit.setup.highMark) :
    Changes s (t.applyHold index number e) := by
  refine .ite (fun _ => ((h.putSub _ _).enqueue _ ?_).bump _) (fun _ => h.putSub _ _)
  have hq : (t.putSub index { holdSub (t.sub index) e with armed := false }).queue = t.queue :=
    (keptBut_putSub (ps := [.subs, .faults, .stats, .parity]) _ _ (by simp)).2 (.refl _ t) .queue (by simp)
  have hu : (t.putSub index { holdSub (t.sub index) e with armed := false }).unit = t.unit :=
    (keptBut_putSub (ps := [.subs, .faults, .stats, .parity]) _ _ (by simp)).2 (.refl _ t) .unit (by simp)
  simpa [State.occupancy, hq, hu] using hroom

/-- A deposit is accepted into the pool's front, and its hold may add a record (R48, R158). -/
theorem accept (h : Changes s t) {slot : Nat} (d : Delayed) (shape : Shaped) (basis : Basis) (e : Nat)
    (hfront : poolFront t.store.pool = some slot)
    (hroom : t.occupancy < Config.queueCap ∨ t.occupancy < t.unit.setup.highMark) :
    Changes s (t.accept slot d shape basis e) := by
  have hstored {u : State} (k : Changes s u) (hu : KeptBut [.subs, .store, .faults, .stats, .parity] t u) :
      Changes s (match (t.sub d.index).plan with
        | .prepaid => u.applyHold d.index d.number e
        | .postpaid => u) := by
    split
    · refine k.applyHold _ _ _ ?_
      rwa [State.occupancy, hu .queue (by simp), hu .unit (by simp)]
    · exact k
  exact (((((hstored ((((h.step (.accepted t slot _ hfront)).rewrite _).putSub _ _)) (by simp)).putSub _ _).relink
    _).joinDue _ _).noteReads _)

theorem perform (h : Changes s t) (d : Delayed)
    (hroom : t.occupancy < Config.queueCap ∨ t.occupancy < t.unit.setup.highMark) : Changes s (t.perform d).1 := by
  have hjudged : Changes s (t.judgeDeposit d).1 := by
    unfold State.judgeDeposit
    dsimp only
    split
    · exact h
    · split
      · exact h
      · split
        · next hfront => exact h.accept d _ _ _ hfront hroom
        · exact h
  exact hjudged.noteReads _

end Changes

/-- Where nothing holds a deposit back the queue is below the high mark (R42, R50). -/
theorem State.occupancy_lt_of_clearToPerform {s : State} (h : s.clearToPerform = true) :
    s.occupancy < s.unit.setup.highMark := by
  simp only [State.clearToPerform, Bool.and_eq_true, decide_eq_true_eq] at h
  exact h.2

namespace Changes

variable {s t : State}

theorem newDeposit (h : Changes s t) (d : Delayed) (hchars : d.latched.chars.length ≤ 256)
    (hnew : ∀ x ∈ t.intake.table, ¬ (x.origin = d.origin ∧ x.tag = d.tag)) : Changes s (t.newDeposit d) := by
  refine noteReads (.ite (fun _ => .ite (fun hroom => ?_) (fun _ => h.addNotice _ _)) (fun hclear => ?_)) _
  · exact (h.step (.latched t d hroom hnew hchars)).addNotice _ _
  · have hc : t.clearToPerform = true := by
      simp only [State.mustHold, Bool.or_eq_true, Bool.not_eq_true'] at hclear
      simpa using fun hc => hclear (.inl hc)
    exact (h.perform d (.inr (State.occupancy_lt_of_clearToPerform hc))).addNotice _ _

theorem takeDeposit (h : Changes s t) (src : Nat) (b : DepositBody) : Changes s (t.takeDeposit src b) := by
  unfold State.takeDeposit
  split
  · exact h
  · split
    · split
      · exact h.addNotice _ _
      · exact (h.step (.entriesDropped t _ _)).addNotice _ _
    · next hnone =>
      refine h.newDeposit _ ?_ ?_
      · simp only [delayedOf, List.length_take]
        omega
      · intro x hx
        simpa [isOf, delayedOf] using List.find?_eq_none.1 hnone x hx

theorem performEntry (h : Changes s t) (d : Delayed) (hclear : t.clearToPerform = true) :
    Changes s (t.performEntry d) := by
  refine (h.perform d (.inr (State.occupancy_lt_of_clearToPerform hclear))).step (.entriesAnswered _ _ fun x => ?_)
  split <;> exact ⟨rfl, rfl, rfl⟩

theorem runEntries (n : Nat) (h : Changes s t) : Changes s (State.runEntries n t) := by
  induction n generalizing t with
  | zero => exact h
  | succ n ih =>
    unfold State.runEntries
    split
    · exact .ite (fun hclear => ih ((h.performEntry _ hclear).noteReads _)) (fun _ => h.noteReads _)
    · exact h

theorem delayedRun (h : Changes s t) : Changes s t.delayedRun :=
  .ite (fun _ => runEntries _ (h.intakeMark _)) (fun _ => h)

theorem discard (h : Changes s t) (origin tag : Nat) : Changes s (t.discard origin tag) := by
  unfold State.discard
  split
  · exact ((h.advance _).step (.entriesDropped _ _ _)).bump _
  · exact h

theorem recallMsg (h : Changes s t) (src : Nat) (b : RecallBody) {slot : Nat} {m : Msg} (hm : t.msg slot = some m) :
    Changes s (t.recallMsg src b slot m) := by
  have hanswer (code : RecallCode) (u : State) (k : Changes s u) :
      Changes s (u.addNotice src (.recallAnswer b.number.toNat b.seq.toNat code m.held)) := k.addNotice _ _
  unfold State.recallMsg
  dsimp only
  split
  · exact h.finishNoting _ _ (hanswer _)
  · exact h.finishNoting _ _ (hanswer _)
  · exact h.finishNoting _ _ (hanswer _)
  · exact hanswer _ _ (.ite (fun _ => h) (fun _ => h.putMsg _ (by rw [hm]; rfl)))
  · exact hanswer _ _ h

theorem takeRecall (h : Changes s t) (src : Nat) (b : RecallBody) : Changes s (t.takeRecall src b) := by
  unfold State.takeRecall
  split
  · exact h
  · dsimp only
    refine noteReads ?_ _
    split
    · split
      · next hm => exact h.recallMsg src b hm
      · exact h.addNotice _ _
    · exact h.addNotice _ _

/-! ### Accounts and tariffs -/

theorem takeCredit (h : Changes s t) (src : Nat) (addressed : Bool) (b : CreditBody) :
    Changes s (t.takeCredit src addressed b) := by
  have happly (index : Nat) : Changes s (t.applyCredit index b.tag.toNat b.amount.toNat) :=
    .ite (fun _ => (h.putSub _ _).bump _) (fun _ => ((h.putSub _ _).bump _).bump _)
  unfold State.takeCredit
  dsimp only
  split
  · exact .ite (fun _ => h.addNotice _ _) (fun _ => h)
  · refine noteReads ?_ _
    split
    · exact h.addNotice _ _
    · exact h.addNotice _ _
    · exact .ite (fun _ => (h.bump _).addNotice _ _) (fun _ => (happly _).addNotice _ _)
    · exact (happly _).addNotice _ _

theorem takeTariff (h : Changes s t) (b : TariffBody) : Changes s (t.takeTariff b) :=
  .ite (fun _ => (h.step (.tariffs t _ (by exact id) (by exact tableWf_set _ _ _ _))).rewrite _)
    (fun _ => (h.step (.tariffs t _ (by exact tableWf_set _ _ _ _) (by exact id))).rewrite _)

end Changes

/-- A promotion writes rows of the active table, each in canonical form, and leaves the staged one (R145). -/
theorem promote_wf (t : Tariffs) :
    (tableWf noTariff t.active = true → tableWf noTariff (promote t).active = true) ∧
      (promote t).staged = t.staged := by
  have hfold (l : List Nat) (t : Tariffs) :
      (tableWf noTariff t.active = true → tableWf noTariff (l.foldl promoteClass t).active = true) ∧
        (l.foldl promoteClass t).staged = t.staged := by
    induction l generalizing t with
    | nil => exact ⟨id, rfl⟩
    | cons c l ih =>
      obtain ⟨hactive, hstaged⟩ := ih (promoteClass t c)
      unfold promoteClass at hactive hstaged
      rw [List.foldl_cons]
      unfold promoteClass
      split
      · next hc =>
        rw [if_pos hc] at hactive hstaged
        exact ⟨fun h => hactive (tableWf_set _ _ _ _ h), hstaged⟩
      · next hc =>
        rw [if_neg hc] at hactive hstaged
        exact ⟨hactive, hstaged⟩
  exact hfold _ t

namespace Changes

variable {s t : State}

theorem promoteTariffs (h : Changes s t) : Changes s t.promoteTariffs :=
  .ite (fun _ => h.noteReads _) (fun _ => ((h.step
    (.tariffs t _ (promote_wf t.charge).1 (by rw [(promote_wf t.charge).2]; exact id))).rewrite _).noteReads _)

/-! ### The Record Queue -/

theorem depart (h : Changes s t) : Changes s t.depart :=
  ((((h.step (.departed t _ (by rfl) (by rfl))).rewrite _).intakeMark _).storeLists _).bump _

theorem recordUnanswered (h : Changes s t) : Changes s t.recordUnanswered := (h.queueMarks _).bump _

theorem recordSlot (h : Changes s t) (dominant : Bool) : Changes s (t.recordSlot dominant) := by
  unfold State.recordSlot
  split
  · have k := h.span { t.span with onAir := none }
    exact .ite (fun _ => k.depart) (fun _ => k.recordUnanswered)
  · exact h

theorem resendExpiry (h : Changes s t) : Changes s t.resendExpiry := by
  unfold State.resendExpiry
  split
  · exact (h.advance _).queueMarks _
  · exact h

theorem stallExpiry (h : Changes s t) : Changes s t.stallExpiry := by
  unfold State.stallExpiry
  split
  · exact ((h.advance _).queueMarks _).latch _
  · exact h

theorem takeClose (h : Changes s t) (period : Nat) : Changes s (t.takeClose period) :=
  noteReads (.ite (fun _ => h) (fun _ => .ite (fun _ => h.bump _)
    (fun _ => (((h.queueMarks _).rewrite _).promoteTariffs).bump _))) _

theorem sweepTotal (h : Changes s t) (w : Sweep) (r : Subscriber) (hroom : t.occupancy < t.unit.setup.highMark) :
    Changes s (t.sweepTotal w r) := ((h.enqueue _ (.inr hroom)).putSub _ _).putSweep _

theorem sweepStep (h : Changes s t) : Changes s t.sweepStep := by
  unfold State.sweepStep
  split
  · exact .ite (fun _ => h) (fun _ => noteReads (.ite (fun _ => h.putSweep _) (fun _ => .ite
      (fun hroom => h.sweepTotal _ _ hroom) (fun _ => h.queueMarks _))) _)
  · exact h

theorem sweepEnd (h : Changes s t) : Changes s t.sweepEnd := by
  unfold State.sweepEnd
  split
  · exact .ite (fun _ => h) (fun _ => noteReads (.ite (fun hroom => (h.enqueue _ (.inr hroom)).putSweep _)
      (fun _ => h.queueMarks _)) _)
  · exact h

theorem serveWaiters (n : Nat) (h : Changes s t) : Changes s (State.serveWaiters n t) := by
  induction n generalizing t with
  | zero => exact h
  | succ n ih =>
    unfold State.serveWaiters
    split
    · next slot rest _ =>
      refine .ite (fun hroom => ih (queueUsage
        ((h.storeLists { t.store with waitList := rest }).rewrite [.waitList]) slot ?_)) (fun _ => h)
      rw [State.roomFor_iff] at hroom ⊢
      simpa [State.occupancy] using hroom
    · exact h

theorem serveWaitList (h : Changes s t) : Changes s t.serveWaitList :=
  .ite (fun _ => (serveWaiters _ (h.storeLists _)).noteReads _) (fun _ => h)

/-! ### LOAD -/

/-- Records added one after another, with room for them all. -/
theorem enqueueAll (l : List RecordBody) (h : Changes s t) (hroom : t.roomFor l.length = true) :
    Changes s (l.foldl State.enqueue t) := by
  induction l generalizing t with
  | nil => exact h
  | cons b l ih =>
    rw [State.roomFor_iff, List.length_cons] at hroom
    refine ih (h.enqueue b (.inl (Nat.lt_of_lt_of_le (Nat.lt_add_of_pos_right (Nat.succ_pos _)) hroom))) ?_
    rw [State.roomFor_iff, State.occupancy, State.enqueue_records, List.length_append, List.length_singleton]
    exact Nat.le_trans (Nat.le_of_eq (Nat.add_right_comm _ _ _)) hroom

theorem queueFinals (h : Changes s t) (index number : Nat) (r : Subscriber)
    (hroom : t.roomToEmpty index number r = true) : Changes s (t.queueFinals index number r) := by
  have k := enqueueAll _ h hroom
  unfold State.queueFinals
  dsimp only
  split
  · exact .ite (fun _ => k.putSweep _) (fun _ => k)
  · exact k

theorem blindIfRepeated (count : Nat) (h : Changes s t) (slot : Nat) :
    Changes s (State.blindIfRepeated count t slot) := by
  unfold State.blindIfRepeated
  split
  · split
    · exact .ite (fun _ => h.finish _ _) (fun _ => h)
    · exact h
  · exact h

theorem repeatWalk (h : Changes s t) (r : Subscriber) (count : Nat) : Changes s (t.repeatWalk r count) :=
  .ite (fun _ => h) (fun _ => foldl (fun _ x k => blindIfRepeated count k x) _ h)

theorem replaceSub (h : Changes s t) (index : Nat) (r : Subscriber) (b : LoadBody)
    (hroom : r.plan = .postpaid → planOfByte b.plan = .prepaid → t.roomToEmpty index b.number.toNat r = true) :
    Changes s (t.replaceSub index r b) := by
  have k : Changes s (if decide (r.plan = .postpaid) && decide (planOfByte b.plan = .prepaid) then
      t.queueFinals index b.number.toNat r else t) := by
    refine .ite (fun hleaves => ?_) (fun _ => h)
    simp only [Bool.and_eq_true, decide_eq_true_eq] at hleaves
    exact h.queueFinals _ _ _ (hroom hleaves.1 hleaves.2)
  exact .ite (fun _ => k.putSub _ _) (fun _ => (k.putSub _ _).repeatWalk _ _)

theorem loadSet (h : Changes s t) (src index : Nat) (b : LoadBody) : Changes s (t.loadSet src index b) := by
  refine .ite (fun _ => (h.putSub _ _).loadAnswer _ _ _ _ _ _) (fun _ => .ite (fun _ => h.loadAnswer _ _ _ _ _ _)
    (fun _ => .ite (fun _ => h.loadAnswer _ _ _ _ _ _) (fun _ => .ite (fun _ => h.loadAnswer _ _ _ _ _ _)
      (fun hroom => (h.replaceSub _ _ _ fun hpost hpre => ?_).loadAnswer _ _ _ _ _ _))))
  simpa using fun hfull => hroom ⟨hpost, hpre, hfull⟩

theorem loadVacate (h : Changes s t) (src index : Nat) (b : LoadBody) : Changes s (t.loadVacate src index b) := by
  refine .ite (fun _ => h.loadAnswer _ _ _ _ _ _) (fun _ => .ite (fun _ => h.loadAnswer _ _ _ _ _ _) (fun _ => ?_))
  split
  · exact (h.putSub _ _).loadAnswer _ _ _ _ _ _
  · exact .ite (fun hroom => ((h.queueFinals _ _ _ hroom).putSub _ _).loadAnswer _ _ _ _ _ _)
      (fun _ => h.loadAnswer _ _ _ _ _ _)

theorem takeLoad (h : Changes s t) (src : Nat) (addressed : Bool) (op : Byte) (b : LoadBody) :
    Changes s (t.takeLoad src addressed op b) := by
  unfold State.takeLoad
  split
  · exact .ite (fun _ => h.addNotice _ _) (fun _ => h)
  · exact noteReads (.ite (fun _ => .ite (fun _ => h.loadSet _ _ _) (fun _ => h.loadAnswer _ _ _ _ _ _))
      (fun _ => .ite (fun _ => h.loadVacate _ _ _) (fun _ => h.loadAnswer _ _ _ _ _ _))) _

/-! ### Queries -/

/-- A filter that nothing passes. -/
theorem filter_none {α : Type} (l : List α) : l.filter (fun _ => false) = [] := List.filter_eq_nil_iff.2 (by simp)

theorem clearStats (h : Changes s t) : Changes s t.clearStats := by
  have k := (h.step (.countersDropped t fun _ => false)).withFaults
    { t.faults with causes := { Causes.clear with setupBad := t.faults.causes.setupBad }, lastError := none }
  rwa [filter_none] at k

theorem takeQueryStats (h : Changes s t) (src tag : Nat) (clear : Bool) : Changes s (t.takeQueryStats src tag clear) :=
  have k := h.noteReads statsReads
  addNotice (.ite (fun _ => k.clearStats) (fun _ => k)) _ _

theorem takeQuerySub (h : Changes s t) (src : Nat) (addressed : Bool) (b : QueryBody) :
    Changes s (t.takeQuerySub src addressed b) := by
  unfold State.takeQuerySub
  split
  · exact .ite (fun _ => h.addNotice _ _) (fun _ => h)
  · exact (h.addNotice _ _).noteReads _

theorem takeQueryMsg (h : Changes s t) (src : Nat) (b : QueryBody) : Changes s (t.takeQueryMsg src b) :=
  (h.addNotice _ _).noteReads _

theorem takeQueryClock (h : Changes s t) (src : Nat) (e : Env) (b : QueryBody) :
    Changes s (t.takeQueryClock src e b) := (h.addNotice _ _).noteReads _

theorem takeQuery (h : Changes s t) (hd : Header) (e : Env) (kind : Byte) (b : QueryBody) :
    Changes s (t.takeQuery hd e kind b) :=
  .ite (fun _ => h.takeQueryStats _ _ _) (fun _ => .ite (fun _ => h.takeQuerySub _ _ _)
    (fun _ => .ite (fun _ => h.takeQueryMsg _ _) (fun _ => h.takeQueryClock _ _ _)))

/-! ### Setup, start and restart -/

theorem coldOnChip (h : Changes s t) : Changes s t.coldOnChip := by
  have k1 := h.step (.countersDropped t fun _ => false)
  rw [filter_none] at k1
  have k2 := k1.step (.span _ { SpanPort.cold with ackDriven := t.span.ackDriven } (Nat.zero_le _)
    (by simp [SpanPort.cold]))
  have k3 := k2.step (.entriesDropped _ (fun _ => false) false)
  rw [filter_none] at k3
  exact ((((k3.withClaims _).withTracker _).withClock _).storeLists _).queueMarks _

theorem assertReset (h : Changes s t) (n : Nat) : Changes s (t.assertReset n) :=
  .ite (fun _ => h) (fun _ => (((h.withUnit _).withFaults _).span _).withClaims _)

theorem releaseReset (h : Changes s t) : Changes s t.releaseReset :=
  .ite (fun _ => h.withUnit _) (fun _ => h)

theorem rejectSetup (h : Changes s t) : Changes s t.rejectSetup :=
  ((((h.withUnit _).withClock _).step (.countersDropped _ _)).withClaims _).latch _

end Changes

/-- An accepted setup block's high mark is at most 1,000 (section 10.1). -/
theorem highMark_le_of_setupOk {bytes : List Byte} {straps : BitVec 5} (h : setupOk bytes straps = true) :
    (setupOf bytes).highMark ≤ 1000 := by
  simp only [setupOk, fieldsOk, within, Bool.and_eq_true, decide_eq_true_eq] at h
  exact h.1.1.2.1.2.2

namespace Changes

variable {s t : State}

theorem setupRead (h : Changes s t) (line : SetupLine) (straps : BitVec 5) : Changes s (t.setupRead line straps) :=
  .ite (fun _ => .ite (fun hok => h.coldOnChip.step (.setup _ _ (highMark_le_of_setupOk hok)))
    (fun _ => h.rejectSetup)) (fun _ => h)

theorem initDone (h : Changes s t) : Changes s t.initDone := by
  refine .ite (fun _ => ?_) (fun _ => h)
  have k := (((((h.step (.subscribersCleared _)).step (.storeCleared _)).step (.queueCleared _)).step
    (.tariffs _ Tariffs.cold (fun _ => rfl) (fun _ => rfl))).withClock { t.clock with serial := 0 }).step
      (.parityMadeGood _ fun _ => false)
  rw [filter_none] at k
  exact k.withUnit _

theorem takeRestart (h : Changes s t) : Changes s t.takeRestart := (h.coldOnChip.withUnit _).noteReads _

theorem recoverMsg (h : Changes s t) {slot : Nat} {m : Msg} (hm : t.msg slot = some m) :
    Changes s (t.recoverMsg slot m) := by
  have hsome : (t.msg slot).isSome = true := by rw [hm]; rfl
  have hlink : Changes s (t.clearLink slot m) := .ite (fun _ => h.putMsg _ hsome) (fun _ => h)
  unfold State.recoverMsg
  dsimp only
  split
  · exact hlink
  · exact hlink.restoreEntry _ _
  · refine .ite (fun _ => h.finishUnlinked _ _ hsome) (fun _ => ?_)
    split
    · exact h.putMsg _ hsome
    · exact (h.putMsg _ hsome).restoreEntry _ _
  · exact .ite (fun _ => ((h.rest _ _ hsome).addBetween _ _).noteReads _) (fun _ => h.finishUnlinked _ _ hsome)
  · exact (h.putMsg _ hsome).settle _
  · exact h

theorem recoveryStep (h : Changes s t) (e : Env) : Changes s (t.recoveryStep e) := by
  unfold State.recoveryStep
  split
  · refine .ite (fun _ => ?_) (fun _ => h)
    split
    · next slot p1 _ =>
      have k := (h.advance e.moment).withUnit { t.unit with recovery := some p1 }
      dsimp only
      refine noteReads ?_ _
      split
      · next hm => exact k.recoverMsg hm
      · exact k
    · exact h
  · exact h

theorem recoveryDone (h : Changes s t) (e : Env) : Changes s (t.recoveryDone e) := by
  unfold State.recoveryDone
  split
  · exact .ite (fun _ => (((h.advance e.moment).withUnit _).queueMarks _).noteReads _) (fun _ => h)
  · exact h

/-! ### The Span Port -/

theorem putAck (h : Changes s t) (driven : Bool) : Changes s (t.putAck driven) := h.span _

theorem frameMoment (h : Changes s t) (e : Env) : Changes s (t.frameMoment e) := (h.advance _).putAck _

theorem putOnAir (h : Changes s t) (o : OnAir) : Changes s (t.putOnAir o) := by
  have k := h.span { t.span with onAir := some o, frame := t.frameFor o }
  cases o with
  | record => exact k.queueMarks _
  | notice => exact k
  | claim _ => exact k

theorem gapEnd (h : Changes s t) (e : Env) (rival : Option (BitVec 12)) : Changes s (t.gapEnd e rival) := by
  have k := (h.advance e.moment).span { (t.advance e.moment).span with waitingGap := false }
  refine .ite (fun _ => .ite (fun _ => k) (fun _ => ?_)) (fun _ => h)
  dsimp only
  split
  · exact .ite (fun _ => (k.noteReads _).putOnAir _) (fun _ => k.noteReads _)
  · exact k

theorem noticeUnanswered (h : Changes s t) : Changes s t.noticeUnanswered := by
  unfold State.noticeUnanswered
  split
  · next n rest heq =>
    refine .ite (fun hlt => h.step (.span t _ ?_ ?_)) (fun _ => (h.step (.span t _ ?_ ?_)).bump _)
    · rw [heq, List.length_cons, List.length_cons]
      exact Nat.le_max_right _ _
    · intro x hx
      rcases List.mem_cons.1 hx with rfl | hx
      · exact .inr hlt
      · exact .inl (heq ▸ List.mem_cons_of_mem _ hx)
    · rw [heq, List.length_cons]
      exact Nat.le_trans (Nat.le_succ _) (Nat.le_max_right _ _)
    · exact fun x hx => .inl (heq ▸ List.mem_cons_of_mem _ hx)
  · exact h

theorem noticeSlot (h : Changes s t) (dominant : Bool) : Changes s (t.noticeSlot dominant) := by
  unfold State.noticeSlot
  split
  · have k := h.span { t.span with onAir := none }
    refine .ite (fun _ => k.step (.span _ _ ?_ ?_)) (fun _ => k.noticeUnanswered)
    · rw [List.length_drop]
      exact Nat.le_trans (Nat.sub_le _ _) (Nat.le_max_right _ _)
    · exact fun x hx => .inl (List.mem_of_mem_drop hx)
  · exact h

theorem sendFaulted (h : Changes s t) : Changes s t.sendFaulted := by
  unfold State.sendFaulted
  split
  · exact h
  · have k := (h.span { t.span with onAir := none }).bump .sendFaults
    dsimp only
    split
    · exact k.noticeUnanswered
    · exact k.recordUnanswered
    · exact k

theorem hear (h : Changes s t) (hd : Header) (e : Env) (b : Body) {act : State → State}
    (hact : ∀ u, Changes s u → Changes s (act u)) : Changes s (t.hear hd e b act) :=
  have k := h.frameMoment e
  .ite (fun _ => k) (fun _ => .ite (fun _ => k.bump _) (fun _ => .ite (fun _ => k) (fun _ => .ite (fun _ => k.bump _)
    (fun _ => .ite (fun _ => k.bump _) (fun _ => (hact _ (k.putAck _)).testStart)))))

theorem handOver (h : Changes s t) (hd : Header) (e : Env) (b : Body) : Changes s (t.handOver hd e b) := by
  cases b with
  | mark x => exact h.takeMark e x
  | report x => exact foldl (fun _ r k => reportEntry _ k r) _ h
  | claim x => exact h.takeClaim _ x
  | heard x => exact h.takeHeard x
  | deposit x => exact h.takeDeposit _ x
  | load op x => exact h.takeLoad _ _ op x
  | tariffStage x => exact h.takeTariff x
  | credit x => exact h.takeCredit _ _ x
  | periodClose p => exact h.takeClose _
  | query k x => exact h.takeQuery hd e k x
  | restart => exact h.takeRestart
  | _ x => exact h.takeRecall _ x

theorem hearWire (h : Changes s t) (e : Env) (f : WireFrame) : Changes s (t.hearWire e f) := by
  have k := h.frameMoment e
  refine .ite (fun _ => k) (fun _ => .ite (fun _ => (k.span _).bump _) (fun _ => .ite (fun _ => k.bump _)
    (fun _ => .ite (fun _ => k.bump _) (fun _ => ?_))))
  split
  · exact k
  · refine .ite (fun _ => k.bump _) (fun _ => ?_)
    split
    · exact k.bump _
    · exact h.hear _ _ _ fun _ k => k.handOver _ _ _

end Changes

/-! ### Every command -/

/-- What every command is: a run of elementary changes. -/
theorem exec_changes {c : Instr} {s t : State} (h : exec c s = .next t) : Changes s t := by
  have hs := Changes.refl s
  -- The goal is named since `recall` alone, a keyword, names no case.
  refine ?instr
  cases c <;> injection h with h <;> subst h
  case resetAsserted n => exact hs.assertReset n
  case resetReleased => exact hs.releaseReset
  case setupReadComplete e l p => exact (hs.advance _).setupRead l p
  case initSweepComplete => exact hs.initDone
  case recoverySweepStep e => exact hs.recoveryStep e
  case recoverySweepComplete e => exact hs.recoveryDone e
  case frameBad e f => exact hs.hearWire e f
  case headerMalformed e f => exact hs.hearWire e f
  case frameNotTaken e f => exact hs.hearWire e f
  case idleGapEnd e r => exact hs.gapEnd e r
  case sendFault e => exact .ite (fun _ => (hs.advance _).sendFaulted) (fun _ => hs)
  case noticeAckSlot e d => exact .ite (fun _ => (hs.advance _).noticeSlot d) (fun _ => hs)
  case recordAckSlot e d => exact .ite (fun _ => (hs.advance _).recordSlot d) (fun _ => hs)
  case resendGapExpiry => exact .ite (fun _ => hs.resendExpiry) (fun _ => hs)
  case stallTimerExpiry => exact .ite (fun _ => hs.stallExpiry) (fun _ => hs)
  case faultTimerExpiry => exact .ite (fun _ => hs) (fun _ => hs.faultExpiry)
  case mark h e b => exact hs.hear h e _ fun _ k => k.takeMark e b
  case coastExpiry e => exact .ite (fun _ => (hs.coast e).testStart) (fun _ => hs)
  case compositionStep e => exact .ite (fun _ => ((hs.advance _).composeStep).testStart) (fun _ => hs)
  case compositionEnd e => exact .ite (fun _ => (hs.advance _).composeEnd) (fun _ => hs)
  case claimReportedSent e => exact .ite (fun _ => (hs.advance _).claimSent) (fun _ => hs)
  case claim h e b => exact hs.hear h e _ fun _ k => k.takeClaim _ b
  case report h e b => exact hs.hear h e _ fun _ k => .foldl (fun _ r k => .reportEntry _ k r) _ k
  case heard h e b => exact hs.hear h e _ fun _ k => k.takeHeard b
  case deposit h e b => exact hs.hear h e _ fun _ k => k.takeDeposit _ b
  case delayedDepositRun e => exact .ite (fun _ => ((hs.advance _).delayedRun).testStart) (fun _ => hs)
  case discardTimerExpiry o tag => exact .ite (fun _ => hs.discard _ _) (fun _ => hs)
  case instr.recall h e b => exact hs.hear h e _ fun _ k => k.takeRecall _ b
  case waitListServe e => exact .ite (fun _ => (hs.advance _).serveWaitList) (fun _ => hs)
  case loadSet h e b => exact hs.hear h e _ fun _ k => k.takeLoad _ _ _ b
  case loadVacate h e b => exact hs.hear h e _ fun _ k => k.takeLoad _ _ _ b
  case tariffStage h e b => exact hs.hear h e _ fun _ k => k.takeTariff b
  case credit h e b => exact hs.hear h e _ fun _ k => k.takeCredit _ _ b
  case periodClose h e p => exact hs.hear h e _ fun _ k => k.takeClose _
  case periodSweepStep e => exact .ite (fun _ => (hs.advance _).sweepStep) (fun _ => hs)
  case periodSweepComplete e => exact .ite (fun _ => (hs.advance _).sweepEnd) (fun _ => hs)
  case queryStats h e tag arg => exact hs.hear h e _ fun _ k => k.takeQueryStats _ _ _
  case queryStatsClear h e tag arg => exact hs.hear h e _ fun _ k => k.takeQueryStats _ _ _
  case querySubscriber h e b => exact hs.hear h e _ fun _ k => k.takeQuerySub _ _ b
  case queryMessage h e b => exact hs.hear h e _ fun _ k => k.takeQueryMsg _ b
  case queryClock h e b => exact hs.hear h e _ fun _ k => k.takeQueryClock _ e b
  case restart h e => exact hs.hear h e _ fun _ k => k.takeRestart
  case misdirectedFrame e f => exact hs.hearWire e f
  case malformedFrameBody e f => exact hs.hearWire e f
  case loadOtherOperation h e op b => exact hs.hear h e _ fun _ k => k.takeLoad _ _ _ b

/-- One step is a run of elementary changes. -/
theorem step_changes {s t : State} (h : step s = .next t) : Changes s t := by
  unfold Machine.step at h
  split at h
  · injection h with h
    exact h ▸ .refl s
  · exact ((Changes.refl s).withPending _).trans (exec_changes h)

end Sys2Proof.Machine
end

section
/-! The invariants of the tables and queues, each kept by every elementary change and so by every step. -/

namespace Sys2Proof.Machine

/-! ### The slots of the store (R61) -/

theorem tableFind_eq_none_of_lt {α : Type} {t : Table α} {n : Nat} (h : ∀ p ∈ t, p.1 < n) {k : Nat} (hk : n ≤ k) :
    tableFind t k = none := by
  induction t with
  | nil => rfl
  | cons p t ih =>
    have hp : p.1 < n := h p List.mem_cons_self
    rw [tableFind, if_neg (by omega)]
    exact ih fun q hq => h q (List.mem_cons_of_mem _ hq)

theorem mem_of_tableFind {α : Type} {t : Table α} {k : Nat} {v : α} (h : tableFind t k = some v) : (k, v) ∈ t := by
  induction t with
  | nil => cases h
  | cons p t ih =>
    obtain ⟨j, a⟩ := p
    rw [tableFind] at h
    split at h
    · next hk =>
      cases h
      rw [hk]
      exact List.mem_cons_self
    · exact List.mem_cons_of_mem _ (ih h)

theorem tableFind_of_mem {α : Type} {t : Table α} (hs : tableSorted t = true) {k : Nat} {v : α} (h : (k, v) ∈ t) :
    tableFind t k = some v := by
  induction t with
  | nil => cases h
  | cons p t ih =>
    obtain ⟨j, a⟩ := p
    simp only [tableSorted, Bool.and_eq_true] at hs
    rw [tableFind]
    rcases List.mem_cons.1 h with h | h
    · cases h
      exact if_pos rfl
    · have hfound := ih hs.2 h
      rw [if_neg, hfound]
      rintro rfl
      rw [tableAbove_find t hs.1 (Nat.le_refl k)] at hfound
      cases hfound

/-- A slot in use is below the run of slots never used, and not among the released ones. -/
theorem SlotsConserved.used {s : State} (h : SlotsConserved s) {slot : Nat} (hm : (s.msg slot).isSome = true) :
    slot < s.store.pool.fresh ∧ slot ∉ s.store.pool.released := by
  obtain ⟨m, hm⟩ := Option.isSome_iff_exists.1 hm
  obtain ⟨-, -, hfree, hbelow, -, -⟩ := h
  refine ⟨hbelow _ (mem_of_tableFind hm), fun hin => ?_⟩
  have hnone := (hfree slot hin).2
  rw [State.msg] at hm
  rw [hm] at hnone
  cases hnone

theorem SlotsConserved.message {s : State} (h : SlotsConserved s) {slot : Nat} (m : Msg)
    (hm : (s.msg slot).isSome = true) :
    SlotsConserved (s.withStore { s.store with msgs := tablePut s.store.msgs slot m }) := by
  obtain ⟨hlt, hnotin⟩ := h.used hm
  obtain ⟨hsorted, hnodup, hfree, hbelow, hlen, hcap⟩ := h
  refine ⟨tableSorted_put _ _ _ hsorted, hnodup, fun x hx => ⟨(hfree x hx).1, ?_⟩, fun p hp => ?_, ?_, hcap⟩
  · have hne : x ≠ slot := fun he => hnotin (he ▸ hx)
    exact (tableFind_put_other _ m hne).trans (hfree x hx).2
  · rcases mem_tablePut hp with rfl | hp
    · exact hlt
    · exact hbelow p hp
  · exact (congrArg (· + _) (length_tablePut_found _ _ m hsorted hm)).trans hlen

/-- The pool's front is free, so a message accepted there takes the place it leaves in the pool. -/
theorem SlotsConserved.accepted {s : State} (h : SlotsConserved s) {slot : Nat} (m : Msg)
    (hfront : poolFront s.store.pool = some slot) :
    SlotsConserved (s.withStore
      { s.store with pool := poolPop s.store.pool, msgs := tablePut s.store.msgs slot m }) := by
  obtain ⟨hsorted, hnodup, hfree, hbelow, hlen, hcap⟩ := h
  rw [poolFront] at hfront
  split at hfront
  · next first rest hrel =>
    cases hfront
    obtain ⟨hlt, hnone⟩ := hfree slot (hrel ▸ List.mem_cons_self)
    rw [hrel, List.nodup_cons] at hnodup
    have hpop : poolPop s.store.pool = { s.store.pool with released := rest } := by rw [poolPop, hrel]
    unfold SlotsConserved
    simp only [State.withStore_store, hpop]
    refine ⟨tableSorted_put _ _ _ hsorted, hnodup.2, fun x hx => ?_, fun p hp => ?_, ?_, hcap⟩
    · obtain ⟨hxlt, hxnone⟩ := hfree x (hrel ▸ List.mem_cons_of_mem _ hx)
      have hne : x ≠ slot := fun he => hnodup.1 (he ▸ hx)
      exact ⟨hxlt, (tableFind_put_other _ m hne).trans hxnone⟩
    · rcases mem_tablePut hp with rfl | hp
      · exact hlt
      · exact hbelow p hp
    · rw [length_tablePut_absent _ _ m hnone]
      rw [hrel, List.length_cons] at hlen
      omega
  · next hrel =>
    split at hfront
    · next hfresh =>
      cases hfront
      have hpop : poolPop s.store.pool = { s.store.pool with fresh := s.store.pool.fresh + 1 } := by
        simp only [poolPop, hrel]
      unfold SlotsConserved
      simp only [State.withStore_store, hpop, hrel]
      refine ⟨tableSorted_put _ _ _ hsorted, List.nodup_nil, fun x hx => (List.not_mem_nil hx).elim, fun p hp => ?_, ?_,
        hfresh⟩
      · rcases mem_tablePut hp with rfl | hp
        · exact Nat.lt_succ_self _
        · exact Nat.lt_succ_of_lt (hbelow p hp)
      · rw [length_tablePut_absent _ _ m (tableFind_eq_none_of_lt hbelow (Nat.le_refl _))]
        rw [hrel] at hlen
        simp only [List.length_nil] at hlen ⊢
        omega
    · cases hfront

/-- A slot released goes from the message records to the pool. -/
theorem SlotsConserved.released {s : State} (h : SlotsConserved s) {slot : Nat} (hm : (s.msg slot).isSome = true) :
    SlotsConserved (s.withStore
      { s.store with msgs := tableErase s.store.msgs slot, pool := poolPush s.store.pool slot }) := by
  obtain ⟨hlt, hnotin⟩ := h.used hm
  obtain ⟨hsorted, hnodup, hfree, hbelow, hlen, hcap⟩ := h
  have hlen' := length_tableErase_found s.store.msgs slot hm
  have hnone : tableFind (tableErase s.store.msgs slot) slot = none := tableFind_erase_same _ _ hsorted
  unfold SlotsConserved
  simp only [State.withStore_store, poolPush]
  split
  · next hrun =>
    obtain ⟨hrel, hnext⟩ := hrun
    simp only [hrel, List.length_nil] at hlen ⊢
    refine ⟨tableSorted_erase _ _ hsorted, List.nodup_nil, fun x hx => (List.not_mem_nil hx).elim, fun p hp => ?_,
      by omega, by omega⟩
    have hplt := hbelow p (mem_tableErase hp)
    have hne : p.1 ≠ slot := by
      intro he
      have hfound := tableFind_of_mem (tableSorted_erase _ slot hsorted) hp
      rw [he, hnone] at hfound
      cases hfound
    omega
  · refine ⟨tableSorted_erase _ _ hsorted, List.nodup_cons.2 ⟨hnotin, hnodup⟩, fun x hx => ?_,
      fun p hp => hbelow p (mem_tableErase hp), by simp only [List.length_cons]; omega, hcap⟩
    rcases List.mem_cons.1 hx with rfl | hx
    · exact ⟨hlt, hnone⟩
    · have hne : x ≠ slot := fun he => hnotin (he ▸ hx)
      exact ⟨(hfree x hx).1, (tableFind_erase_other _ hne).trans (hfree x hx).2⟩

theorem SlotsConserved.congr {s t : State} (h : SlotsConserved s) (hmsgs : t.store.msgs = s.store.msgs)
    (hpool : t.store.pool = s.store.pool) : SlotsConserved t := by
  unfold SlotsConserved
  rwa [hmsgs, hpool]

theorem slotsConserved_change {s t : State} (h : Change s t) (hs : SlotsConserved s) : SlotsConserved t := by
  cases h with
  | outside h =>
    have hstore : t.store = s.store := h .store (by simp [otherParts])
    exact hs.congr (by rw [hstore]) (by rw [hstore])
  | message slot m hm => exact hs.message m hm
  | accepted slot m hfront => exact hs.accepted m hfront
  | released slot hm => exact hs.released hm
  | storeLists v hmsgs hpool => exact hs.congr hmsgs hpool
  | storeCleared =>
    exact ⟨rfl, List.nodup_nil, fun _ hx => (List.not_mem_nil hx).elim, fun _ hp => (List.not_mem_nil hp).elim, rfl,
      Nat.zero_le _⟩
  | _ => exact hs.congr rfl rfl

/-- Settles O55: only a message written, accepted or released changes the records or the pool. -/
theorem slotsStayConserved : Obligations.SlotsStayConserved :=
  fun _ _ hs h => (step_changes h).keeps (fun _ _ => slotsConserved_change) hs

/-! ### The charge record queue (R160, R161) -/

theorem RecordsNumbered.enqueued {s : State} (h : RecordsNumbered s) (hmark : HighMarkBelowCap s) {v : RecordQueue}
    {body : RecordBody} (hroom : s.occupancy < Config.queueCap ∨ s.occupancy < s.unit.setup.highMark)
    (hrecords : v.records = s.queue.records ++ [⟨s.queue.nextNumber, body⟩])
    (hnext : v.nextNumber = (s.queue.nextNumber + 1) % 16777216) : RecordsNumbered (s.withQueue v) := by
  obtain ⟨-, hlt, hnumbers⟩ := h
  unfold RecordsNumbered
  simp only [State.withQueue_queue, hrecords, hnext, List.length_append, List.length_singleton]
  refine ⟨?_, by omega, fun i r hi => ?_⟩
  · unfold HighMarkBelowCap at hmark
    simp only [State.occupancy, Config.queueCap] at hroom ⊢
    omega
  · rw [List.getElem?_append] at hi
    split at hi
    · next hin =>
      obtain ⟨hnumber, hsum⟩ := hnumbers i r hi
      omega
    · next hout =>
      rw [List.getElem?_singleton] at hi
      split at hi
      · cases hi
        have hi0 : i = s.queue.records.length := by omega
        exact ⟨hlt, by rw [hi0, Nat.add_sub_cancel_left]⟩
      · cases hi

theorem RecordsNumbered.departed {s : State} (h : RecordsNumbered s) {v : RecordQueue}
    (hrecords : v.records = s.queue.records.drop 1) (hnext : v.nextNumber = s.queue.nextNumber) :
    RecordsNumbered (s.withQueue v) := by
  obtain ⟨hlen, hlt, hnumbers⟩ := h
  unfold RecordsNumbered
  simp only [State.withQueue_queue, hrecords, hnext, List.length_drop]
  refine ⟨by omega, hlt, fun i r hi => ?_⟩
  rw [List.getElem?_drop] at hi
  obtain ⟨hnumber, hsum⟩ := hnumbers (1 + i) r hi
  exact ⟨hnumber, by rwa [show s.queue.records.length - 1 - i = s.queue.records.length - (1 + i) by omega]⟩

theorem RecordsNumbered.congr {s t : State} (h : RecordsNumbered s) (hrecords : t.queue.records = s.queue.records)
    (hnext : t.queue.nextNumber = s.queue.nextNumber) : RecordsNumbered t := by
  unfold RecordsNumbered
  rwa [hrecords, hnext]

theorem recordsNumbered_change {s t : State} (h : Change s t) (hs : RecordsNumbered s ∧ HighMarkBelowCap s) :
    RecordsNumbered t ∧ HighMarkBelowCap t := by
  obtain ⟨hr, hm⟩ := hs
  cases h with
  | outside h =>
    have hqueue : t.queue = s.queue := h .queue (by simp [otherParts])
    have hunit : t.unit = s.unit := h .unit (by simp [otherParts])
    exact ⟨hr.congr (by rw [hqueue]) (by rw [hqueue]), by rwa [HighMarkBelowCap, hunit]⟩
  | unit v hv => exact ⟨hr, by rwa [HighMarkBelowCap, State.withUnit_unit, hv]⟩
  | setup v hv => exact ⟨hr, hv⟩
  | enqueued v body hroom hrecords hnext => exact ⟨hr.enqueued hm hroom hrecords hnext, hm⟩
  | departed v hrecords hnext => exact ⟨hr.departed hrecords hnext, hm⟩
  | queueMarks v hrecords hnext => exact ⟨hr.congr hrecords hnext, hm⟩
  | queueCleared =>
    exact ⟨⟨Nat.zero_le _, Nat.zero_lt_succ _, fun i r hi => by cases hi⟩, hm⟩
  | _ => exact ⟨hr.congr rfl rfl, hm⟩

/-- Settles O56: a record is added only with room for it or below the high mark, and none but the head leaves. -/
theorem recordsStayNumbered : Obligations.RecordsStayNumbered :=
  fun _ _ hr hm h => (step_changes h).keeps (fun _ _ => recordsNumbered_change) ⟨hr, hm⟩

/-! ### The notice queue and the delayed deposit table (R16, R40) -/

theorem noticesBounded_change {s t : State} (h : Change s t) (hs : NoticesBounded s) : NoticesBounded t := by
  cases h with
  | outside h =>
    have hspan : t.span = s.span := h .span (by simp [otherParts])
    rwa [NoticesBounded, hspan]
  | span v hlen hold =>
    exact ⟨Nat.le_trans hlen (Nat.max_le.2 ⟨Nat.le_refl _, hs.1⟩), fun n hn => (hold n hn).elim (hs.2 n) id⟩
  | _ => exact hs

theorem DelayedTableKeyed.latched {s : State} (h : DelayedTableKeyed s) {d : Delayed}
    (hroom : s.intake.table.length < Config.delayedCap)
    (hnew : ∀ x ∈ s.intake.table, ¬ (x.origin = d.origin ∧ x.tag = d.tag)) (hchars : d.latched.chars.length ≤ 256) :
    DelayedTableKeyed (s.withIntake { s.intake with table := s.intake.table ++ [d] }) := by
  obtain ⟨-, hkeys, hlatched⟩ := h
  refine ⟨?_, ?_, fun x hx => ?_⟩
  · rw [State.withIntake_intake, List.length_append, List.length_singleton]
    exact hroom
  · refine List.pairwise_append.2 ⟨hkeys, List.pairwise_singleton _ _, fun x hx y hy => ?_⟩
    rw [List.mem_singleton.1 hy]
    exact hnew x hx
  · rcases List.mem_append.1 hx with hx | hx
    · exact hlatched x hx
    · rw [List.mem_singleton.1 hx]
      exact hchars

theorem DelayedTableKeyed.dropped {s : State} (h : DelayedTableKeyed s) (p : Delayed → Bool) (due : Bool) :
    DelayedTableKeyed (s.withIntake { table := s.intake.table.filter p, runDue := due }) := by
  obtain ⟨hlen, hkeys, hlatched⟩ := h
  exact ⟨Nat.le_trans (List.length_filter_le _ _) hlen, hkeys.filter _, fun x hx => hlatched x (List.mem_filter.1 hx).1⟩

theorem DelayedTableKeyed.answered {s : State} (h : DelayedTableKeyed s) {f : Delayed → Delayed}
    (hf : ∀ d, (f d).origin = d.origin ∧ (f d).tag = d.tag ∧ (f d).latched = d.latched) :
    DelayedTableKeyed (s.withIntake { s.intake with table := s.intake.table.map f }) := by
  obtain ⟨hlen, hkeys, hlatched⟩ := h
  refine ⟨?_, ?_, fun x hx => ?_⟩
  · rw [State.withIntake_intake, List.length_map]
    exact hlen
  · refine List.pairwise_map.2 (hkeys.imp fun {a b} hab => ?_)
    rwa [(hf a).1, (hf a).2.1, (hf b).1, (hf b).2.1]
  · obtain ⟨d, hd, rfl⟩ := List.mem_map.1 hx
    rw [(hf d).2.2]
    exact hlatched d hd

theorem delayedTableKeyed_change {s t : State} (h : Change s t) (hs : DelayedTableKeyed s) : DelayedTableKeyed t := by
  cases h with
  | outside h =>
    have hintake : t.intake = s.intake := h .intake (by simp [otherParts])
    rwa [DelayedTableKeyed, hintake]
  | intakeMark v hv => rwa [DelayedTableKeyed, State.withIntake_intake, hv]
  | latched d hroom hnew hchars => exact hs.latched hroom hnew hchars
  | entriesDropped p due => exact hs.dropped p due
  | entriesAnswered f hf => exact hs.answered hf
  | _ => exact hs

/-- Settles O59: each law read off the elementary changes of its own part. -/
theorem noticesAndDelayedTableStayBounded : Obligations.NoticesAndDelayedTableStayBounded :=
  fun _ _ h => ⟨(step_changes h).keeps fun _ _ => noticesBounded_change,
    (step_changes h).keeps fun _ _ => delayedTableKeyed_change⟩

/-! ### Canonical tables and counters (R183, log 26) -/

theorem tableAbove_filter {α : Type} (p : Nat × α → Bool) {k : Nat} {t : Table α} (h : tableAbove k t = true) :
    tableAbove k (t.filter p) = true := by
  induction t with
  | nil => rfl
  | cons q t ih =>
    simp only [tableAbove, Bool.and_eq_true] at h
    rw [List.filter_cons]
    split
    · exact Bool.and_eq_true_iff.2 ⟨h.1, ih h.2⟩
    · exact ih h.2

theorem tableSorted_filter {α : Type} (p : Nat × α → Bool) {t : Table α} (h : tableSorted t = true) :
    tableSorted (t.filter p) = true := by
  induction t with
  | nil => rfl
  | cons q t ih =>
    simp only [tableSorted, Bool.and_eq_true] at h
    rw [List.filter_cons]
    split
    · exact Bool.and_eq_true_iff.2 ⟨tableAbove_filter p h.1, ih h.2⟩
    · exact ih h.2

theorem tableSorted_of_wf {α : Type} [DecidableEq α] {d : α} {t : Table α} (h : tableWf d t = true) :
    tableSorted t = true := (Bool.and_eq_true _ _ ▸ h).1

theorem tableWf_filter {α : Type} [DecidableEq α] {d : α} (p : Nat × α → Bool) {t : Table α} (h : tableWf d t = true) :
    tableWf d (t.filter p) = true := by
  simp only [tableWf, Bool.and_eq_true, List.all_eq_true] at h ⊢
  exact ⟨tableSorted_filter p h.1, fun q hq => h.2 q (List.mem_filter.1 hq).1⟩

/-- A key of a filtered table reads as it did, or as an unlisted one. -/
theorem tableGet_filter {α : Type} (p : Nat × α → Bool) {t : Table α} (d : α) (k : Nat) (h : tableSorted t = true) :
    tableGet (t.filter p) d k = tableGet t d k ∨ tableGet (t.filter p) d k = d := by
  unfold tableGet
  cases hfind : tableFind (t.filter p) k with
  | none => exact .inr rfl
  | some v => exact .inl (by rw [tableFind_of_mem h (List.mem_filter.1 (mem_of_tableFind hfind)).1])

/-- The store's tables as `State.storeWf` lists them, and the counters' bound. -/
structure TablesCanonical (s : State) : Prop where
  subs : tableWf Subscriber.vacant s.subs = true
  msgs : tableSorted s.store.msgs = true
  due : tableWf [] s.store.due = true
  stats : tableWf 0 s.stats = true
  active : tableWf noTariff s.charge.active = true
  staged : tableWf noTariff s.charge.staged = true
  parity : tableSorted s.parity = true
  places : s.parity.all (fun b => decide (b.2 ∈ placesAt b.1)) = true
  counters : CountersBounded s

theorem tablesCanonical_iff (s : State) : TablesCanonical s ↔ s.storeWf = true ∧ CountersBounded s := by
  simp only [State.storeWf, Bool.and_eq_true]
  exact ⟨fun ⟨h1, h2, h3, h4, h5, h6, h7, h8, h9⟩ => ⟨⟨⟨⟨⟨⟨⟨⟨h1, h2⟩, h3⟩, h4⟩, h5⟩, h6⟩, h7⟩, h8⟩, h9⟩,
    fun ⟨⟨⟨⟨⟨⟨⟨⟨h1, h2⟩, h3⟩, h4⟩, h5⟩, h6⟩, h7⟩, h8⟩, h9⟩ => ⟨h1, h2, h3, h4, h5, h6, h7, h8, h9⟩⟩

theorem countersBounded_bump {s : State} (h : CountersBounded s) (hsorted : tableSorted s.stats = true) (c : Stat) :
    CountersBounded (s.bump c) := by
  intro d
  by_cases hd : d = c
  · rw [hd, State.stat_bump_same s c hsorted]
    exact Nat.min_le_left _ _
  · rw [State.stat_bump_other s hd]
    exact h d

theorem countersBounded_filter {s : State} (h : CountersBounded s) (hsorted : tableSorted s.stats = true)
    (p : Nat × Nat → Bool) : CountersBounded (s.withStats (s.stats.filter p)) := by
  intro c
  rcases tableGet_filter p 0 (statKey c) hsorted with he | he
  · exact Nat.le_trans (Nat.le_of_eq he) (h c)
  · exact Nat.le_trans (Nat.le_of_eq he) (Nat.zero_le _)

theorem tablesCanonical_change {s t : State} (h : Change s t) (hs : TablesCanonical s) : TablesCanonical t := by
  cases h with
  | outside h =>
    have hsubs : t.subs = s.subs := h .subs (by simp [otherParts])
    have hstore : t.store = s.store := h .store (by simp [otherParts])
    have hstats : t.stats = s.stats := h .stats (by simp [otherParts])
    have hcharge : t.charge = s.charge := h .charge (by simp [otherParts])
    have hparity : t.parity = s.parity := h .parity (by simp [otherParts])
    have hcounters : CountersBounded t := fun c => by
      rw [State.stat, hstats]
      exact hs.counters c
    exact ⟨hsubs ▸ hs.subs, hstore ▸ hs.msgs, hstore ▸ hs.due, hstats ▸ hs.stats, hcharge ▸ hs.active,
      hcharge ▸ hs.staged, hparity ▸ hs.parity, hparity ▸ hs.places, hcounters⟩
  | count c =>
    exact { hs with
      stats := tableWf_set _ _ _ _ hs.stats
      counters := countersBounded_bump hs.counters (tableSorted_of_wf hs.stats) c }
  | countersDropped p =>
    exact { hs with
      stats := tableWf_filter p hs.stats
      counters := countersBounded_filter hs.counters (tableSorted_of_wf hs.stats) p }
  | parityMadeGood p =>
    refine { hs with parity := tableSorted_filter p hs.parity, places := ?_ }
    exact List.all_eq_true.2 fun b hb => List.all_eq_true.1 hs.places b (List.mem_filter.1 hb).1
  | subscriber index r => exact { hs with subs := tableWf_set _ _ _ _ hs.subs }
  | subscribersCleared => exact { hs with subs := rfl }
  | message slot m => exact { hs with msgs := tableSorted_put _ _ _ hs.msgs }
  | accepted slot m => exact { hs with msgs := tableSorted_put _ _ _ hs.msgs }
  | released slot => exact { hs with msgs := tableSorted_erase _ _ hs.msgs }
  | dueList key l => exact { hs with due := tableWf_set _ _ _ _ hs.due }
  | storeLists v hmsgs hpool hdue => exact { hs with msgs := hmsgs ▸ hs.msgs, due := hdue ▸ hs.due }
  | storeCleared => exact { hs with msgs := rfl, due := rfl }
  | tariffs v ha hst => exact { hs with active := ha hs.active, staged := hst hs.staged }
  | _ => exact { hs with }

/-- Settles O60: each table's own writes keep its canonical form, and a count saturates. -/
theorem tablesStayCanonical : Obligations.TablesStayCanonical :=
  fun s t hwf hcounters h => (tablesCanonical_iff t).1
    ((step_changes h).keeps (fun _ _ => tablesCanonical_change) ((tablesCanonical_iff s).2 ⟨hwf, hcounters⟩))

end Sys2Proof.Machine
end

section
/-! The receiver's outcomes (R7 to R13), and the fields of the Window Clock by its state (R84). -/

namespace Sys2Proof.Machine

/-! ### What becomes of a frame heard -/

theorem State.takes_eq_true {s : State} {h : Header} {b : Body} : s.takes h b = true ↔
    s.listening = true ∧ headMalformed h = false ∧ (s.toSelf h = true ∨ h.dst = 31) ∧
      s.sourceListed (kindOfBody b) h.src.toNat = true ∧ formOk h b = true := by
  simp [State.takes, and_assoc]

/-- A frame heard is dropped, with no more than a count, or taken and handed to its owner. -/
theorem State.hear_cases (s : State) (h : Header) (e : Env) (b : Body) (act : State → State) :
    KeptBut [.now, .span, .stats] s (s.hear h e b act) ∨
      (s.takes h b = true ∧ s.hear h e b act = (act (s.atFrame h e)).testStart) := by
  by_cases ht : s.takes h b = true
  · exact .inr ⟨ht, s.hear_taken h e b act ht⟩
  · left
    unfold State.hear
    dsimp only
    split
    · simp
    · split
      · simp
      · split
        · simp
        · split
          · simp
          · split
            · simp
            · simp_all [State.takes]

/-- A frame on the Span is dropped, or taken as the body its bytes read as. -/
theorem State.hearWire_cases (s : State) (e : Env) (f : WireFrame) :
    KeptBut [.now, .span, .stats] s (s.hearWire e f) ∨
      ∃ b, s.takes f.head b = true ∧ s.hearWire e f = ((s.atFrame f.head e).handOver f.head e b).testStart := by
  unfold State.hearWire
  dsimp only
  split
  · exact .inl (by simp)
  · split
    · exact .inl (by simp)
    · split
      · exact .inl (by simp)
      · split
        · exact .inl (by simp)
        · split
          · exact .inl (by simp)
          · split
            · exact .inl (by simp)
            · split
              · exact .inl (by simp)
              · next b _ => exact (s.hear_cases f.head e b _).imp_right fun hb => ⟨b, hb⟩

@[simp] theorem State.testStart_clock (s : State) : s.testStart.clock = s.clock :=
  (by simp : KeptBut [.claims, .store, .faults, .stats] s s.testStart) .clock (by simp)
@[simp] theorem State.testStart_unit (s : State) : s.testStart.unit = s.unit :=
  (by simp : KeptBut [.claims, .store, .faults, .stats] s s.testStart) .unit (by simp)

/-! ### The clock's fields -/

/-- The parts that change while the clock stays. -/
def besideClock : List Part :=
  [.pending, .now, .unit, .faults, .stats, .span, .subs, .intake, .store, .claims, .tracker, .charge, .queue, .parity]

theorem ClockShape.of_keptBut {s t : State} (hs : ClockShape s.clock) (h : KeptBut besideClock s t) :
    ClockShape t.clock := by
  have hclock : t.clock = s.clock := h .clock (by simp [besideClock])
  rwa [hclock]

theorem airNext_inRange (a : AirTime) (h : a.inRange = true) : (airNext a).inRange = true := by
  simp only [AirTime.inRange, Bool.and_eq_true, decide_eq_true_eq] at h
  unfold airNext
  split
  · simp only [AirTime.inRange, Bool.and_eq_true, decide_eq_true_eq]
    omega
  · split
    · simp only [AirTime.inRange, Bool.and_eq_true, decide_eq_true_eq]
      omega
    · rfl

/-- A MARK of its form carries an air time in range. -/
theorem airOf_inRange {h : Header} {b : MarkBody} (hform : formOk h (.mark b) = true) : (airOf b).inRange = true := by
  simp only [formOk, bodyInRange, Bool.and_eq_true, decide_eq_true_eq] at hform
  have hlap : b.lap.toNat < 65536 := b.lap.isLt
  exact Bool.and_eq_true_iff.2 ⟨decide_eq_true (Nat.le_of_lt_succ hlap), decide_eq_true hform.2.1.2⟩

/-- What is absent has every property. -/
theorem forall_absent {α : Type} (P : α → Prop) : ∀ x, (none : Option α) = some x → P x := nofun

theorem clockShape_cold (n : Serial) : ClockShape { Clock.cold with serial := n } :=
  ⟨⟨rfl, rfl, rfl, rfl⟩, forall_absent _, forall_absent _, forall_absent _, forall_absent _⟩

theorem clockShape_begun (c : Clock) {air : AirTime} (arrival : Nat) (plan : AirPlan) (hair : air.inRange = true) :
    ClockShape (clockBegun c air arrival plan) := by
  refine ⟨⟨⟨_, rfl, rfl⟩, rfl, rfl, rfl⟩, ?_, forall_absent _, forall_absent _, ?_⟩
  · rintro x ⟨⟩
    exact hair
  · rintro x ⟨⟩
    exact airNext_inRange _ (airNext_inRange _ hair)

theorem clockShape_candidate {c : Clock} (h : ClockShape c) (hstate : c.state = .search) {x : Sighting}
    (hx : x.air.inRange = true) : ClockShape { c with candidate := some x } := by
  obtain ⟨hfields, hcurrent, -, hheld, hlatest⟩ := h
  rw [hstate] at hfields
  refine ⟨?_, hcurrent, ?_, hheld, hlatest⟩
  · simp only [hstate]
    exact hfields
  · rintro y ⟨⟩
    exact hx

theorem clockShape_held {c : Clock} (h : ClockShape c) (hstate : c.state ≠ .search) {x : HeldMark}
    (hx : x.air.inRange = true) : ClockShape { c with held := some x } := by
  obtain ⟨hfields, hcurrent, hcandidate, -, hlatest⟩ := h
  refine ⟨?_, hcurrent, hcandidate, ?_, hlatest⟩
  · cases hc : c.state with
    | search => exact absurd hc hstate
    | tracking => simpa only [hc] using hfields
    | coasting => simpa only [hc] using hfields
  · rintro y ⟨⟩
    exact hx

theorem clockShape_coasted {c : Clock} (h : ClockShape c) (hstate : c.state ≠ .search) {cur : Current}
    (hcur : c.current = some cur) (hmisses : c.misses < 3) : ClockShape (clockCoasted c cur) := by
  obtain ⟨hfields, hcurrent, hcandidate, hheld, hlatest⟩ := h
  refine ⟨?_, ?_, hcandidate, hheld, hlatest⟩
  · cases hc : c.state with
    | search => exact absurd hc hstate
    | tracking =>
      simp only [hc] at hfields
      exact ⟨⟨_, rfl, rfl⟩, hfields.2.1, hfields.2.2.1, Nat.succ_pos _, hmisses⟩
    | coasting =>
      simp only [hc] at hfields
      exact ⟨⟨_, rfl, rfl⟩, hfields.2.1, hfields.2.2.1, Nat.succ_pos _, hmisses⟩
  · rintro x ⟨⟩
    exact airNext_inRange _ (hcurrent cur hcur)

/-! ### The rules that move the clock -/

theorem ClockShape.beginByMark (s : State) (e : Env) {air : AirTime} (arrival : Nat) (plan : AirPlan)
    (hair : air.inRange = true) : ClockShape (s.beginByMark e air arrival plan).clock := by
  have hraised : ClockShape (s.raiseClock (clockBegun s.clock air arrival plan)).clock := by
    simpa [State.raiseClock] using clockShape_begun s.clock arrival plan hair
  exact hraised.of_keptBut (by simp [State.beginByMark, besideClock])

theorem ClockShape.ite' {c : Prop} [Decidable c] {a b : State} (ha : ClockShape a.clock) (hb : ClockShape b.clock) :
    ClockShape (if c then a else b).clock := by
  split
  · exact ha
  · exact hb

theorem ClockShape.takeMark {s : State} (hs : ClockShape s.clock) (e : Env) {b : MarkBody}
    (hair : (airOf b).inRange = true) : ClockShape (s.takeMark e b).clock := by
  unfold State.takeMark
  split
  · next hstate =>
    unfold State.markInSearch
    split
    · exact clockShape_candidate hs hstate hair
    · split
      · exact hs
      · split
        · exact .beginByMark _ e _ _ hair
        · exact clockShape_candidate hs hstate hair
  · next cur hcur hsearch =>
    unfold State.markInStep
    dsimp only
    split
    · split
      · exact hs
      · exact hs
    · split
      · split
        · exact hs
        · split
          · exact .beginByMark _ e _ _ hair
          · exact hs
      · exact .ite' (.beginByMark _ e _ _ hair) (clockShape_held hs hsearch hair)
  · exact hs

theorem ClockShape.coast {s : State} (hs : ClockShape s.clock) (e : Env) : ClockShape (s.coast e).clock := by
  unfold State.coast
  split
  · exact hs
  · exact hs
  · next cur hcur hsearch =>
    extract_lets s1
    split
    · next hmisses =>
      have hcoasted : ClockShape (s1.raiseClock (clockCoasted s.clock cur)).clock := by
        simpa [State.raiseClock] using clockShape_coasted hs hsearch hcur hmisses
      exact hcoasted.of_keptBut (by simp [besideClock])
    · have hlost : ClockShape (((s1.latch .clockLost).bump .clockLosses).withClock (clockLost s.clock)).clock :=
        clockShape_cold s.clock.serial
      exact hlost.of_keptBut (by simp [besideClock])

theorem ClockShape.coldOnChip (s : State) : ClockShape s.coldOnChip.clock := clockShape_cold s.clock.serial

theorem ClockShape.takeRestart (s : State) : ClockShape s.takeRestart.clock := by
  simpa [State.takeRestart] using ClockShape.coldOnChip s

theorem ClockShape.setupRead {s : State} (hs : ClockShape s.clock) (line : SetupLine) (straps : BitVec 5) :
    ClockShape (s.setupRead line straps).clock := by
  unfold State.setupRead
  dsimp only
  split
  · split
    · exact .coldOnChip s
    · exact clockShape_cold s.clock.serial
  · exact hs

theorem ClockShape.initDone {s : State} (hs : ClockShape s.clock) : ClockShape s.initDone.clock := by
  unfold State.initDone
  dsimp only
  split
  · exact hs
  · exact hs

theorem ClockShape.handOver {s : State} (hs : ClockShape s.clock) {h : Header} (e : Env) {b : Body}
    (hform : formOk h b = true) : ClockShape (s.handOver h e b).clock := by
  cases b with
  | mark x => exact hs.takeMark e (airOf_inRange hform)
  | restart => exact .takeRestart s
  | _ => exact hs.of_keptBut (by simp [State.handOver, besideClock])

theorem ClockShape.hear {s : State} (hs : ClockShape s.clock) (h : Header) (e : Env) (b : Body) {act : State → State}
    (hact : formOk h b = true → ∀ u, ClockShape u.clock → ClockShape (act u).clock) :
    ClockShape (s.hear h e b act).clock := by
  rcases s.hear_cases h e b act with hdrop | ⟨htakes, heq⟩
  · exact hs.of_keptBut (hdrop.mono (by simp [besideClock]))
  · rw [heq, State.testStart_clock]
    exact hact (State.takes_eq_true.1 htakes).2.2.2.2 _ hs

theorem ClockShape.hearWire {s : State} (hs : ClockShape s.clock) (e : Env) (f : WireFrame) :
    ClockShape (s.hearWire e f).clock := by
  rcases s.hearWire_cases e f with hdrop | ⟨b, htakes, heq⟩
  · exact hs.of_keptBut (hdrop.mono (by simp [besideClock]))
  · rw [heq, State.testStart_clock]
    exact ClockShape.handOver (s := s.atFrame f.head e) hs e (State.takes_eq_true.1 htakes).2.2.2.2

theorem clockShape_exec {c : Instr} {s t : State} (hs : ClockShape s.clock) (h : exec c s = .next t) :
    ClockShape t.clock := by
  have hrest : ∀ u, KeptBut besideClock s u → ClockShape u.clock := fun _ hu => hs.of_keptBut hu
  have hframe (hd : Header) (e : Env) (b : Body) (act : State → State) (hact : ∀ u, KeptBut besideClock u (act u)) :
      ClockShape (s.hear hd e b act).clock := hs.hear hd e b fun _ u hu => hu.of_keptBut (hact u)
  -- The goal is named since `recall` alone, a keyword, names no case.
  refine ?instr
  cases c <;> injection h with h <;> subst h
  case setupReadComplete => exact ClockShape.setupRead (s := s.advance _) hs _ _
  case initSweepComplete => exact hs.initDone
  case frameBad => exact hs.hearWire _ _
  case headerMalformed => exact hs.hearWire _ _
  case frameNotTaken => exact hs.hearWire _ _
  case misdirectedFrame => exact hs.hearWire _ _
  case malformedFrameBody => exact hs.hearWire _ _
  case mark h e b => exact hs.hear h e _ fun hform _ hu => hu.takeMark e (airOf_inRange hform)
  case coastExpiry e =>
    split
    · rw [State.testStart_clock]
      exact hs.coast e
    · exact hs
  case restart h e => exact hs.hear h e _ fun _ u _ => .takeRestart u
  case claim => exact hframe _ _ _ _ fun u => by simp [besideClock]
  case report => exact hframe _ _ _ _ fun u => by simp [besideClock]
  case heard => exact hframe _ _ _ _ fun u => by simp [besideClock]
  case deposit => exact hframe _ _ _ _ fun u => by simp [besideClock]
  case instr.recall => exact hframe _ _ _ _ fun u => by simp [besideClock]
  case loadSet => exact hframe _ _ _ _ fun u => by simp [besideClock]
  case loadVacate => exact hframe _ _ _ _ fun u => by simp [besideClock]
  case loadOtherOperation => exact hframe _ _ _ _ fun u => by simp [besideClock]
  case tariffStage => exact hframe _ _ _ _ fun u => by simp [besideClock]
  case credit => exact hframe _ _ _ _ fun u => by simp [besideClock]
  case periodClose => exact hframe _ _ _ _ fun u => by simp [besideClock]
  case queryStats => exact hframe _ _ _ _ fun u => by simp [besideClock]
  case queryStatsClear => exact hframe _ _ _ _ fun u => by simp [besideClock]
  case querySubscriber => exact hframe _ _ _ _ fun u => by simp [besideClock]
  case queryMessage => exact hframe _ _ _ _ fun u => by simp [besideClock]
  case queryClock => exact hframe _ _ _ _ fun u => by simp [besideClock]
  all_goals exact hrest _ (by simp [besideClock])

/-- Settles O57: the marks, the coasts and the starts give the clock its fields; nothing else writes them. -/
theorem clockFieldsStayConsistent : Obligations.ClockFieldsStayConsistent := by
  intro s t hs h
  unfold Machine.step at h
  split at h
  · injection h with h
    exact h ▸ hs
  · next rest _ => exact clockShape_exec (s := s.withPending rest) hs h

end Sys2Proof.Machine
end

section
/-! What the rules about messages can do to the Claim Builder, said once: they leave the windows and the fill view, they
leave a slot that holds no composition and no prepared claim, and with the slot IDLE no test of R103 becomes
outstanding. From it, the claim slot's law (R98, R103, R118, R121). -/

namespace Sys2Proof.Machine

/-- The change keeps the clock, the windows and the fill view; the claim slot is left but for the work of a composition
or prepared claim, and a wake event finds an IDLE slot deaf. -/
structure ClaimsKept (s t : State) : Prop where
  clock : t.clock = s.clock
  openWin : t.claims.openWin = s.claims.openWin
  closedWin : t.claims.closedWin = s.claims.closedWin
  fill : t.claims.fill = s.claims.fill
  slot : s.claims.slot.busy = false → t.claims.slot = s.claims.slot
  test : s.claims.slot = .idle → t.claims.startTest = s.claims.startTest
  raised : s.claims.startTest = true → t.claims.startTest = true
  unsent : s.claims.slot ≠ .sent → t.claims.slot ≠ .sent

/-- The parts beside the Claim Builder and the Window Clock. -/
def besideClaims : List Part :=
  [.pending, .now, .unit, .faults, .stats, .span, .subs, .intake, .store, .tracker, .charge, .queue, .parity]

namespace ClaimsKept

theorem refl (s : State) : ClaimsKept s s := ⟨rfl, rfl, rfl, rfl, fun _ => rfl, fun _ => rfl, id, id⟩

theorem trans {s t u : State} (h : ClaimsKept s t) (k : ClaimsKept t u) : ClaimsKept s u where
  clock := k.clock.trans h.clock
  openWin := k.openWin.trans h.openWin
  closedWin := k.closedWin.trans h.closedWin
  fill := k.fill.trans h.fill
  slot hs := (k.slot (by rwa [h.slot hs])).trans (h.slot hs)
  test hs := (k.test (by rw [h.slot (by rw [hs]; rfl), hs])).trans (h.test hs)
  raised hs := k.raised (h.raised hs)
  unsent hs := k.unsent (h.unsent hs)

variable {s t : State}

theorem idle (h : ClaimsKept s t) (hs : s.claims.slot = .idle) : t.claims.slot = .idle := by
  rw [h.slot (by rw [hs]; rfl), hs]

theorem foldl {α : Type} {f : State → α → State} {s : State} (hf : ∀ t x, ClaimsKept s t → ClaimsKept s (f t x))
    (l : List α) {t : State} (h : ClaimsKept s t) : ClaimsKept s (l.foldl f t) := by
  induction l generalizing t with
  | nil => exact h
  | cons x l ih => exact ih (hf t x h)

theorem ite {c : Prop} [Decidable c] {a b : State} (ha : c → ClaimsKept s a) (hb : ¬ c → ClaimsKept s b) :
    ClaimsKept s (if c then a else b) := by
  split
  · exact ha ‹_›
  · exact hb ‹_›

theorem beside (h : ClaimsKept s t) {u : State} (k : KeptBut besideClaims t u) : ClaimsKept s u :=
  have hclaims : u.claims = t.claims := k .claims (by simp [besideClaims])
  h.trans ⟨k .clock (by simp [besideClaims]), by rw [hclaims], by rw [hclaims], by rw [hclaims],
    fun _ => by rw [hclaims], fun _ => by rw [hclaims], fun hs => by rwa [hclaims], fun hs => by rwa [hclaims]⟩

/-! ### Wake events, lists and the outstanding table -/

theorem wake (h : ClaimsKept s t) : ClaimsKept s t.wake := by
  rcases t.wake_eq with heq | ⟨hwaiting, heq⟩
  · rwa [heq]
  · rw [heq]
    exact h.trans ⟨rfl, rfl, rfl, rfl, fun _ => rfl,
      fun hidle => (by rw [hwaiting] at hidle; cases hidle), fun _ => rfl, id⟩

theorem wakeAt (h : ClaimsKept s t) (window : Nat) : ClaimsKept s (t.wakeAt window) :=
  .ite (fun _ => h.wake) (fun _ => h)

/-- What a composition in flight writes of its own work leaves the rest. -/
theorem composing (h : ClaimsKept s t) {c : Composition} (hslot : t.claims.slot = .composing c) {v : ClaimBuilder}
    (hopen : v.openWin = t.claims.openWin := by rfl) (hclosed : v.closedWin = t.claims.closedWin := by rfl)
    (hfill : v.fill = t.claims.fill := by rfl) (htest : v.startTest = t.claims.startTest := by rfl)
    (hunsent : v.slot ≠ .sent := by nofun) : ClaimsKept s (t.withClaims v) :=
  h.trans ⟨rfl, hopen, hclosed, hfill, fun hb => (by rw [hslot] at hb; cases hb),
    fun hidle => (by rw [hslot] at hidle; cases hidle), fun hs => htest.trans hs, fun _ => hunsent⟩

theorem cursorMoved (h : ClaimsKept s t) (f : Feed) : ClaimsKept s (t.cursorMoved f) := by
  unfold State.cursorMoved
  split
  · next hc => exact .ite (fun _ => h.composing hc) (fun _ => h)
  · exact h

theorem joinDue (h : ClaimsKept s t) (slot : Nat) (f : Feed) : ClaimsKept s (t.joinDue slot f) := by
  unfold State.joinDue
  split
  · exact h
  · refine wakeAt (.ite (fun _ => ?_) (fun _ => ?_)) _
    · exact h.beside (by simp [besideClaims])
    · exact h.beside (by simp [besideClaims])

theorem leaveDue (h : ClaimsKept s t) (slot : Nat) : ClaimsKept s (t.leaveDue slot) := by
  unfold State.leaveDue
  split
  · exact h
  · split
    · exact h
    · refine .ite (fun _ => cursorMoved ?_ _) (fun _ => ?_)
      · exact h.beside (by simp [besideClaims])
      · exact h.beside (by simp [besideClaims])

theorem removeEntry (h : ClaimsKept s t) (slot : Nat) : ClaimsKept s (t.removeEntry slot) := by
  unfold State.removeEntry
  split
  · exact h
  · exact wake (h.beside (by simp [besideClaims]))

theorem releaseReservation (h : ClaimsKept s t) (slot : Nat) : ClaimsKept s (t.releaseReservation slot) := by
  unfold State.releaseReservation
  split
  · exact h
  · exact wake (h.beside (by simp [besideClaims]))

theorem putMsg (h : ClaimsKept s t) (slot : Nat) (m : Msg) : ClaimsKept s (t.putMsg slot m) :=
  h.beside (by simp [besideClaims])
theorem settle (h : ClaimsKept s t) (slot : Nat) : ClaimsKept s (t.settle slot) :=
  h.beside (by simp [besideClaims])
theorem noteReads (h : ClaimsKept s t) (places : List StorePlace) : ClaimsKept s (t.noteReads places) :=
  h.beside (by simp [besideClaims])
theorem bump (h : ClaimsKept s t) (c : Stat) : ClaimsKept s (t.bump c) := h.beside (by simp [besideClaims])
theorem addNotice (h : ClaimsKept s t) (dest : Nat) (body : NoticeBody) : ClaimsKept s (t.addNotice dest body) :=
  h.beside (by simp [besideClaims])
theorem putSub (h : ClaimsKept s t) (index : Nat) (r : Subscriber) : ClaimsKept s (t.putSub index r) :=
  h.beside (by simp [besideClaims])
theorem withTracker (h : ClaimsKept s t) (v : Tracker) : ClaimsKept s (t.withTracker v) :=
  h.beside (by simp [besideClaims])

/-! ### Finishing, reverts and abandonment -/

theorem enterFinishing (h : ClaimsKept s t) (slot : Nat) (m : Msg) (ending : Ending) :
    ClaimsKept s (t.enterFinishing slot m ending) := (((h.putMsg _ _).removeEntry slot).leaveDue slot).noteReads _

theorem finishUnlinked (h : ClaimsKept s t) (slot : Nat) (m : Msg) (ending : Ending) :
    ClaimsKept s (t.finishUnlinked slot m ending) := (h.enterFinishing slot m ending).settle slot

theorem revert (h : ClaimsKept s t) (slot : Nat) : ClaimsKept s (t.revert slot) := by
  unfold State.revert
  split
  · exact h
  · dsimp only
    split
    · exact (h.putMsg _ _).wakeAt _
    · exact (h.putMsg _ _).wakeAt _
    · exact .ite (fun _ => h.finishUnlinked _ _ _) (fun _ => (h.putMsg _ _).wakeAt _)
    · exact h.putMsg _ _
    · exact (h.putMsg _ _).settle slot
    · exact h.putMsg _ _

theorem dropItem (h : ClaimsKept s t) (i : Item) : ClaimsKept s (t.dropItem i) :=
  (revert (.ite (fun _ => h.releaseReservation _) (fun _ => h)) _).noteReads _

/-- The claims of work abandoned are those of the state its items leave, with the slot IDLE. -/
theorem abandonWork (h : ClaimsKept s t) (c : Composition) (hbusy : t.claims.slot.busy = true) :
    ClaimsKept s (t.abandonWork c) := by
  have hitems : ClaimsKept t (c.items.foldl State.dropItem t) := foldl (fun _ i k => k.dropItem i) _ (refl t)
  exact h.trans ⟨hitems.clock, hitems.openWin, hitems.closedWin, hitems.fill,
    fun hfree => (by rw [hbusy] at hfree; cases hfree), fun hidle => (by rw [hidle] at hbusy; cases hbusy),
    fun _ => rfl, fun _ => nofun⟩

theorem abandon (h : ClaimsKept s t) : ClaimsKept s t.abandon := by
  unfold State.abandon
  split
  · next hc => exact h.abandonWork _ (by rw [hc]; rfl)
  · next hc => exact (h.abandonWork _ (by rw [hc]; rfl)).bump _
  · exact h

theorem finishNoting (h : ClaimsKept s t) (slot : Nat) (ending : Ending) {note : State → State}
    (hnote : ∀ u, ClaimsKept s u → ClaimsKept s (note u)) : ClaimsKept s (t.finishNoting slot ending note) := by
  unfold State.finishNoting
  split
  · exact h
  · next m _ =>
    have k := hnote _ (h.enterFinishing slot m ending)
    split
    · exact h
    · exact k.settle slot
    · exact k.abandon
    · exact k.abandon
    · exact k

theorem finish (h : ClaimsKept s t) (slot : Nat) (ending : Ending) : ClaimsKept s (t.finish slot ending) :=
  h.finishNoting slot ending fun _ k => k

/-! ### Sends, deadlines and HEARDs -/

theorem rest (h : ClaimsKept s t) (slot : Nat) (m : Msg) (notBefore : Serial) :
    ClaimsKept s (t.rest slot m notBefore) := ((h.putMsg _ _).leaveDue slot).joinDue slot _

theorem carryItem (n : Serial) (h : ClaimsKept s t) (i : Item) : ClaimsKept s (State.carryItem n t i) := by
  have k : ClaimsKept s (if i.first then t.releaseReservation i.slot else t) :=
    .ite (fun _ => h.releaseReservation _) (fun _ => h)
  unfold State.carryItem
  dsimp only
  refine bump (noteReads ?_ _) _
  split
  · exact k
  · split
    · exact (k.putMsg _ _).settle _
    · exact k.putMsg _ _
    · exact .ite (fun _ => k.finishUnlinked _ _ _) (fun _ => .ite
        (fun _ => ((h.withTracker _).putMsg _ _).leaveDue _)
        (fun _ => .ite (fun _ => k.rest _ _ _) (fun _ => k.finishUnlinked _ _ _)))
    · exact k.putMsg _ _

theorem spillItem (h : ClaimsKept s t) (i : Item) : ClaimsKept s (t.spillItem i) := (h.dropItem i).bump _

theorem settleClaim (h : ClaimsKept s t) (n : Serial) (c : ClaimRec) (accepted : Nat) :
    ClaimsKept s (t.settleClaim n c accepted) :=
  foldl (fun _ i k => k.spillItem i) _ (foldl (fun _ i k => carryItem n k i) _ h)

theorem missingCarried (n : Serial) (h : ClaimsKept s t) (c : ClaimRec) : ClaimsKept s (State.missingCarried n t c) :=
  .ite (fun _ => h) (fun _ => (foldl (fun _ i k => carryItem n k i) _ h).bump _)

theorem missingSpilled (h : ClaimsKept s t) (c : ClaimRec) : ClaimsKept s (t.missingSpilled c) :=
  .ite (fun _ => h) (fun _ => (foldl (fun _ i k => k.spillItem i) _ h).bump _)

theorem voidClaim (h : ClaimsKept s t) (c : ClaimRec) : ClaimsKept s (t.voidClaim c) :=
  .ite (fun _ => h) (fun _ => (foldl (fun _ i k => k.dropItem i) _ h).bump _)

theorem expireUnclaimed (n : Serial) (h : ClaimsKept s t) (slot : Nat) :
    ClaimsKept s (State.expireUnclaimed n t slot) := by
  refine noteReads ?_ _
  split
  · exact .ite (fun _ => h.finish _ _) (fun _ => h)
  · exact h

theorem openingWalk (h : ClaimsKept s t) (window : Nat) (serial : Serial) :
    ClaimsKept s (t.openingWalk window serial) :=
  foldl (fun _ _ k => (foldl (fun _ x k => expireUnclaimed serial k x) _ k).noteReads _) _ h

theorem decideDeadline (h : ClaimsKept s t) (serial : Serial) (window slot : Nat) (m : Msg) :
    ClaimsKept s (t.decideDeadline serial window slot m) :=
  .ite (fun _ => h.finish _ _) (fun _ => .ite (fun _ => h.finish _ _) (fun _ => .ite
    (fun _ => (h.withTracker _).rest _ _ _) (fun _ => h)))

theorem meetDeadline (serial : Serial) (window : Nat) (h : ClaimsKept s t) (slot : Nat) :
    ClaimsKept s (State.meetDeadline serial window t slot) := by
  unfold State.meetDeadline
  split
  · refine .ite (fun _ => noteReads ?_ _) (fun _ => h)
    split
    · exact (h.bump _).decideDeadline _ _ _ _
    · exact h.bump _
  · exact h

theorem trackerOnWindow (h : ClaimsKept s t) (serial : Serial) (window : Nat) :
    ClaimsKept s (t.trackerOnWindow serial window) := foldl (fun _ x k => meetDeadline serial window k x) _ h

theorem applyHeard (h : ClaimsKept s t) (b : HeardBody) (slot : Nat) (m : Msg) :
    ClaimsKept s (t.applyHeard b slot m) := by
  unfold State.applyHeard
  dsimp only
  have k1 : ClaimsKept s (if addHeld m b.held = m then t else t.putMsg slot (addHeld m b.held)) :=
    .ite (fun _ => h) (fun _ => h.putMsg _ _)
  have k2 (c : Prop) [Decidable c] (v : State) (hv : ClaimsKept s v) (r : Subscriber) :
      ClaimsKept s ((if c then v else v.putSub m.subIndex r).noteReads [.serial]) :=
    noteReads (.ite (fun _ => hv) (fun _ => hv.putSub _ _)) _
  exact .ite (fun _ => (k2 _ _ k1 _).finish _ _) (fun _ => k2 _ _ k1 _)

theorem takeHeard (h : ClaimsKept s t) (b : HeardBody) : ClaimsKept s (t.takeHeard b) := by
  unfold State.takeHeard
  split
  · exact h.bump _
  · next x _ =>
    have k : ClaimsKept s (if isBetween x then (t.bump .heardMatched).bump .lateHeards else t.bump .heardMatched) :=
      .ite (fun _ => (h.bump _).bump _) (fun _ => h.bump _)
    dsimp only
    refine noteReads ?_ _
    split
    · exact k.applyHeard _ _ _
    · exact k

/-! ### Deposits, recalls and loads -/

theorem accept (h : ClaimsKept s t) (slot : Nat) (d : Delayed) (shape : Shaped) (basis : Basis) (e : Nat) :
    ClaimsKept s (t.accept slot d shape basis e) := by
  unfold State.accept
  refine noteReads (joinDue (h.beside ?_) _ _) _
  dsimp only
  split
  · simp [besideClaims]
  · simp [besideClaims]

theorem judgeDeposit (h : ClaimsKept s t) (d : Delayed) : ClaimsKept s (t.judgeDeposit d).1 := by
  unfold State.judgeDeposit
  dsimp only
  split
  · exact h
  · split
    · exact h
    · split
      · exact h.accept _ _ _ _ _
      · exact h

theorem perform (h : ClaimsKept s t) (d : Delayed) : ClaimsKept s (t.perform d).1 := (h.judgeDeposit d).noteReads _

theorem newDeposit (h : ClaimsKept s t) (d : Delayed) : ClaimsKept s (t.newDeposit d) :=
  noteReads (.ite (fun _ => .ite (fun _ => h.beside (by simp [besideClaims])) (fun _ => h.addNotice _ _))
    (fun _ => (h.perform d).addNotice _ _)) _

theorem takeDeposit (h : ClaimsKept s t) (src : Nat) (b : DepositBody) : ClaimsKept s (t.takeDeposit src b) := by
  unfold State.takeDeposit
  split
  · exact h
  · split
    · split
      · exact h.addNotice _ _
      · exact h.beside (by simp [besideClaims])
    · exact h.newDeposit _

theorem performEntry (h : ClaimsKept s t) (d : Delayed) : ClaimsKept s (t.performEntry d) :=
  (h.perform d).beside (by simp [besideClaims, State.performEntry])

theorem runEntries (n : Nat) (h : ClaimsKept s t) : ClaimsKept s (State.runEntries n t) := by
  induction n generalizing t with
  | zero => exact h
  | succ n ih =>
    unfold State.runEntries
    split
    · exact .ite (fun _ => ih ((h.performEntry _).noteReads _)) (fun _ => h.noteReads _)
    · exact h

theorem delayedRun (h : ClaimsKept s t) : ClaimsKept s t.delayedRun :=
  .ite (fun _ => runEntries _ (h.beside (by simp [besideClaims]))) (fun _ => h)

theorem recallMsg (h : ClaimsKept s t) (src : Nat) (b : RecallBody) (slot : Nat) (m : Msg) :
    ClaimsKept s (t.recallMsg src b slot m) := by
  have hcancel : ClaimsKept s (t.finishNoting slot .cancelled fun u =>
      u.addNotice src (.recallAnswer b.number.toNat b.seq.toNat .cancelled m.held)) :=
    h.finishNoting _ _ fun _ k => k.addNotice _ _
  unfold State.recallMsg
  dsimp only
  split
  · exact hcancel
  · exact hcancel
  · exact hcancel
  · exact addNotice (.ite (fun _ => h) (fun _ => h.putMsg _ _)) _ _
  · exact h.addNotice _ _

theorem takeRecall (h : ClaimsKept s t) (src : Nat) (b : RecallBody) : ClaimsKept s (t.takeRecall src b) := by
  unfold State.takeRecall
  split
  · exact h
  · dsimp only
    refine noteReads ?_ _
    split
    · split
      · exact h.recallMsg _ _ _ _
      · exact h.addNotice _ _
    · exact h.addNotice _ _

theorem blindIfRepeated (count : Nat) (h : ClaimsKept s t) (slot : Nat) :
    ClaimsKept s (State.blindIfRepeated count t slot) := by
  unfold State.blindIfRepeated
  split
  · split
    · exact .ite (fun _ => h.finish _ _) (fun _ => h)
    · exact h
  · exact h

theorem repeatWalk (h : ClaimsKept s t) (r : Subscriber) (count : Nat) : ClaimsKept s (t.repeatWalk r count) :=
  .ite (fun _ => h) (fun _ => foldl (fun _ x k => blindIfRepeated count k x) _ h)

theorem replaceSub (h : ClaimsKept s t) (index : Nat) (r : Subscriber) (b : LoadBody) :
    ClaimsKept s (t.replaceSub index r b) := by
  have k : ClaimsKept s (if decide (r.plan = .postpaid) && decide (planOfByte b.plan = .prepaid) then
      t.queueFinals index b.number.toNat r else t) :=
    .ite (fun _ => h.beside (by simp [besideClaims])) (fun _ => h)
  exact .ite (fun _ => k.putSub _ _) (fun _ => (k.putSub _ _).repeatWalk _ _)

theorem loadSet (h : ClaimsKept s t) (src index : Nat) (b : LoadBody) : ClaimsKept s (t.loadSet src index b) :=
  .ite (fun _ => (h.putSub _ _).addNotice _ _) (fun _ => .ite (fun _ => h.addNotice _ _)
    (fun _ => .ite (fun _ => h.addNotice _ _) (fun _ => .ite (fun _ => h.addNotice _ _)
      (fun _ => (h.replaceSub _ _ _).addNotice _ _))))

theorem takeLoad (h : ClaimsKept s t) (src : Nat) (addressed : Bool) (op : Byte) (b : LoadBody) :
    ClaimsKept s (t.takeLoad src addressed op b) := by
  unfold State.takeLoad
  split
  · exact .ite (fun _ => h.addNotice _ _) (fun _ => h)
  · exact noteReads (.ite (fun _ => .ite (fun _ => h.loadSet _ _ _) (fun _ => h.addNotice _ _))
      (fun _ => .ite (fun _ => h.beside (by simp [besideClaims])) (fun _ => h.addNotice _ _))) _

/-! ### The RECOVERY sweep -/

theorem recoverMsg (h : ClaimsKept s t) (slot : Nat) (m : Msg) : ClaimsKept s (t.recoverMsg slot m) := by
  have hlink : ClaimsKept s (t.clearLink slot m) := .ite (fun _ => h.putMsg _ _) (fun _ => h)
  have hentry {u : State} (k : ClaimsKept s u) (n : Msg) : ClaimsKept s (u.restoreEntry slot n) :=
    k.beside (by simp [besideClaims])
  unfold State.recoverMsg
  dsimp only
  split
  · exact hlink
  · exact hentry hlink _
  · refine .ite (fun _ => h.finishUnlinked _ _ _) (fun _ => ?_)
    split
    · exact h.putMsg _ _
    · exact hentry (h.putMsg _ _) _
  · exact .ite (fun _ => ((h.rest _ _ _).withTracker _).noteReads _) (fun _ => h.finishUnlinked _ _ _)
  · exact (h.putMsg _ _).settle _
  · exact h

theorem recoveryStep (h : ClaimsKept s t) (e : Env) : ClaimsKept s (t.recoveryStep e) := by
  unfold State.recoveryStep
  split
  · refine .ite (fun _ => ?_) (fun _ => h)
    split
    · next p _ _ p1 _ =>
      have k : ClaimsKept s ((t.advance e.moment).withUnit { t.unit with recovery := some p1 }) :=
        h.beside (by simp [besideClaims])
      dsimp only
      refine noteReads ?_ _
      split
      · exact k.recoverMsg _ _
      · exact k
    · exact h
  · exact h

end ClaimsKept

end Sys2Proof.Machine
end

section
/-! The claim slot's law (R98, R103, R118, R121): a composition or prepared claim stands only with the Window Clock in
TRACKING and a window OPEN. -/

namespace Sys2Proof.Machine

/-- A composition or prepared claim has its window and the clock's TRACKING behind it. -/
def ClaimsBacked (s : State) : Prop :=
  s.claims.slot.busy = true → s.clock.state = .tracking ∧ s.claims.openWin.isSome = true

theorem ClaimsKept.backed {s t : State} (h : ClaimsKept s t) (hs : ClaimsBacked s) : ClaimsBacked t := by
  intro hbusy
  rw [h.clock, h.openWin]
  refine hs ?_
  refine Classical.byContradiction fun hfree => ?_
  rw [h.slot (Bool.eq_false_iff.2 hfree)] at hbusy
  exact hfree hbusy

theorem ClaimsKept.free {s t : State} (h : ClaimsKept s t) (hs : s.claims.slot.busy = false) :
    t.claims.slot.busy = false := by rwa [h.slot hs]

theorem ClaimsBacked.of_free {s : State} (h : s.claims.slot.busy = false) : ClaimsBacked s := fun hbusy => by
  rw [h] at hbusy
  cases hbusy

theorem ClaimsBacked.ite {c : Prop} [Decidable c] {a b : State} (ha : ClaimsBacked a) (hb : ClaimsBacked b) :
    ClaimsBacked (if c then a else b) := by
  split
  · exact ha
  · exact hb

/-- Abandonment leaves no work in the claim slot. -/
theorem State.abandon_free (s : State) : s.abandon.claims.slot.busy = false := by
  unfold State.abandon
  split
  · rfl
  · next c _ =>
    have hclaims : ((s.abandonWork c).bump .claimsWithdrawn).claims = (s.abandonWork c).claims := rfl
    rw [hclaims]
    rfl
  · next hcomposing hprepared =>
    cases hslot : s.claims.slot with
    | composing c => exact absurd hslot (hcomposing c)
    | prepared c => exact absurd hslot (hprepared c)
    | _ => rfl

/-! ### Windows -/

theorem ClaimsBacked.resolveAt {s : State} (hs : ClaimsBacked s) (serial : Serial) {one : State → ClaimRec → State}
    (hone : ∀ {u v : State} (c : ClaimRec), ClaimsKept u v → ClaimsKept u (one v c)) :
    ClaimsBacked (s.resolveAt serial one) := by
  have hfold (l : List ClaimRec) (u : State) : ClaimsKept u (l.foldl one u) :=
    ClaimsKept.foldl (fun _ c k => hone c k) l (.refl u)
  have hclosed (w : WindowRec) : ClaimsBacked ((w.claims.foldl one s).withClaims
      { (w.claims.foldl one s).claims with closedWin := none }) := (hfold w.claims s).backed hs
  have hopen (w : WindowRec) (u : State) : ClaimsBacked ((w.claims.foldl one u.abandon).withClaims
      { (w.claims.foldl one u.abandon).claims with openWin := none }) :=
    .of_free ((hfold w.claims u.abandon).free u.abandon_free)
  unfold State.resolveAt
  dsimp only
  split
  · refine .ite (hopen _ _) ?_
    split
    · exact .ite (hclosed _) hs
    · exact hs
  · split
    · exact .ite (hclosed _) hs
    · exact hs

/-- The resolving of windows is no business of the clock's. -/
theorem State.resolveAt_clock (s : State) (serial : Serial) {one : State → ClaimRec → State}
    (hone : ∀ {u v : State} (c : ClaimRec), ClaimsKept u v → ClaimsKept u (one v c)) :
    (s.resolveAt serial one).clock = s.clock := by
  have hfold (l : List ClaimRec) (u : State) : (l.foldl one u).clock = u.clock :=
    (ClaimsKept.foldl (fun _ c k => hone c k) l (.refl u)).clock
  have habandon (u : State) : u.abandon.clock = u.clock := (ClaimsKept.refl u).abandon.clock
  unfold State.resolveAt
  dsimp only
  repeat' split
  all_goals simp [hfold, habandon]

theorem ClaimsBacked.closeAt {s : State} (hs : ClaimsBacked s) (serial : Serial) : ClaimsBacked (s.closeAt serial) := by
  unfold State.closeAt
  split
  · exact .ite (.of_free s.abandon_free) hs
  · exact hs

/-- A window opened while the clock tracks backs whatever stands in the claim slot. -/
theorem ClaimsBacked.openWindow (s : State) (air : AirTime) (serial : Serial) (plan : AirPlan)
    (htracking : s.clock.state = .tracking) : ClaimsBacked (s.openWindow air serial plan) := by
  have hopened : ClaimsBacked (s.withClaims { s.claims with
      openWin := some { air := air, serial := serial, plan := plan, sent := 0, claims := [] },
      fill := zonesZero, arbiter := Arbiter.clear, blocked := [] }) := fun _ => ⟨htracking, rfl⟩
  have htest (u : State) (hu : ClaimsBacked u) : ClaimsBacked (u.withClaims { u.claims with startTest := true }) :=
    fun hbusy => hu hbusy
  unfold State.openWindow
  exact htest _ (((ClaimsKept.refl _).openingWalk air.window serial).backed hopened)

theorem ClaimsBacked.claimsOnMark (s : State) (serial : Serial) (ahead : AirTime) (plan : AirPlan)
    (htracking : s.clock.state = .tracking) : ClaimsBacked (s.claimsOnMark serial ahead plan) := by
  refine .openWindow _ _ _ _ ?_
  have hclose (u : State) : (u.closeAt (serial + 1)).clock = u.clock := by
    unfold State.closeAt
    split
    · split
      · exact (ClaimsKept.refl u).abandon.clock
      · rfl
    · rfl
  rw [hclose, s.resolveAt_clock serial fun c k => k.missingCarried serial c, htracking]

/-- A coasted window frees the claim slot (R100). -/
theorem State.claimsOnCoast_slot (s : State) (serial : Serial) : (s.claimsOnCoast serial).claims.slot = .idle := rfl

theorem State.voidAll_slot (s : State) : s.voidAll.claims.slot = .idle := rfl

/-! ### Marks and coasts -/

theorem ClaimsBacked.beginByMark (s : State) (e : Env) (air : AirTime) (arrival : Nat) (plan : AirPlan) :
    ClaimsBacked (s.beginByMark e air arrival plan) := by
  have htracking : (s.raiseClock (clockBegun s.clock air arrival plan)).clock.state = .tracking := by
    simp [State.raiseClock, clockBegun]
  unfold State.beginByMark State.announceMark inOrder
  split
  · refine .claimsOnMark _ _ _ _ ?_
    rwa [((ClaimsKept.refl _).trackerOnWindow _ _).clock]
  · exact ((ClaimsKept.refl _).trackerOnWindow _ _).backed (.claimsOnMark _ _ _ _ htracking)

theorem ClaimsBacked.takeMark {s : State} (hs : ClaimsBacked s) (e : Env) (b : MarkBody) :
    ClaimsBacked (s.takeMark e b) := by
  have hcandidate (c : Clock) (hc : c.state = s.clock.state) : ClaimsBacked (s.withClock c) := fun hbusy =>
    ⟨hc.trans (hs hbusy).1, (hs hbusy).2⟩
  unfold State.takeMark
  split
  · unfold State.markInSearch
    split
    · exact hcandidate _ rfl
    · exact .ite hs (.ite (.beginByMark _ _ _ _ _) (hcandidate _ rfl))
  · unfold State.markInStep
    dsimp only
    refine .ite ?_ (.ite (.ite hs (.ite (.beginByMark _ _ _ _ _) hs)) ?_)
    · split
      · exact hs
      · exact hs
    · exact .ite (.beginByMark _ _ _ _ _) fun hbusy => hs hbusy
  · exact hs

theorem ClaimsBacked.coast {s : State} (hs : ClaimsBacked s) (e : Env) : ClaimsBacked (s.coast e) := by
  unfold State.coast
  split
  · exact hs
  · exact hs
  · refine .ite ?_ (.of_free (by rw [State.voidAll_slot]; rfl))
    unfold State.announceCoast inOrder
    split
    · exact .of_free rfl
    · exact .of_free (((ClaimsKept.refl _).trackerOnWindow _ _).free rfl)

/-! ### The engine's own claims, and those heard -/

theorem ClaimsBacked.startComposition (s : State) {w : WindowRec} (hopen : s.claims.openWin = some w)
    (hmay : s.mayCompose w = true) : ClaimsBacked (s.startComposition w) := by
  have htracking : s.clock.state = .tracking := by
    simp only [State.mayCompose, Bool.and_eq_true, decide_eq_true_eq] at hmay
    exact hmay.1.1
  have hclaims : (s.startComposition w).claims.openWin = s.claims.openWin := by simp [State.startComposition]
  have hclock : (s.startComposition w).clock = s.clock := by simp [State.startComposition]
  intro _
  rw [hclaims, hclock, hopen]
  exact ⟨htracking, rfl⟩

theorem State.startComposition_startTest (s : State) (w : WindowRec) :
    (s.startComposition w).claims.startTest = s.claims.startTest := by simp [State.startComposition]

/-- The test of R103 leaves none outstanding. -/
theorem State.testStart_startTest (s : State) : s.testStart.claims.startTest = false := by
  unfold State.testStart
  split
  · dsimp only
    split
    · split
      · rw [State.startComposition_startTest]
        rfl
      · rfl
    · rfl
  · next htest => simpa using htest

theorem ClaimsBacked.testStart {s : State} (hs : ClaimsBacked s) : ClaimsBacked s.testStart := by
  unfold State.testStart
  split
  · dsimp only
    split
    · next w hopen =>
      split
      · next hmay => exact .startComposition _ hopen hmay
      · exact hs
    · exact hs
  · exact hs

theorem ClaimsBacked.takeClaim {s : State} (hs : ClaimsBacked s) (src : Nat) (b : ClaimBody) :
    ClaimsBacked (s.takeClaim src b) := by
  have hown (u : State) (hu : ClaimsBacked u) : ClaimsBacked u.ownClaim := by
    intro hbusy
    refine hu ?_
    unfold State.ownClaim at hbusy
    cases hslot : u.claims.slot <;> simp_all [ClaimSlot.busy]
  unfold State.takeClaim
  dsimp only
  have hfill (heard : Bool) : ClaimsBacked (if heard then
      s.withClaims { s.claims with fill := addFill s.claims.fill b.items } else s.bump .claimsOffWindow) :=
    .ite (fun hbusy => hs hbusy) (fun hbusy => hs hbusy)
  exact .ite (hown _ (hfill _)) (.ite (.of_free (State.abandon_free _)) (hfill _))

theorem ClaimsBacked.takeReport {s : State} (hs : ClaimsBacked s) (b : ReportBody) : ClaimsBacked (s.takeReport b) := by
  have hentry (air : AirTime) (u : State) (x : ReportEntry) (hu : ClaimsBacked u) :
      ClaimsBacked (u.reportEntry air x) := by
    unfold State.reportEntry
    refine .ite hu ?_
    dsimp only
    split
    · next w _ hopen =>
      split
      · refine ((ClaimsKept.refl _).settleClaim _ _ _).backed fun hbusy => ⟨(hu hbusy).1, rfl⟩
      · exact hu
    · split
      · exact ((ClaimsKept.refl _).settleClaim _ _ _).backed fun hbusy => hu hbusy
      · exact hu
    · exact hu
  unfold State.takeReport
  generalize (⟨b.lap.toNat, b.window.toNat⟩ : AirTime) = air
  induction b.entries generalizing s with
  | nil => exact hs
  | cons x l ih => exact ih (hentry air s x hs)

/-- The change leaves the OPEN window. -/
def OpenKept (s t : State) : Prop := t.claims.openWin = s.claims.openWin

theorem OpenKept.stayWith {s t : State} (h : OpenKept s t) (c : Composition) (f : Feed) :
    OpenKept s (t.stayWith c f) := by
  unfold State.stayWith
  split
  · exact h
  · exact h

theorem OpenKept.treatMessage {s t : State} (h : OpenKept s t) (c : Composition) (w : WindowRec) (f : Feed) (slot : Nat)
    (m : Msg) : OpenKept s (t.treatMessage c w f slot m) := by
  unfold State.treatMessage
  split
  · exact h.stayWith c f
  · exact stayWith (((ClaimsKept.refl t).finish slot .expired).openWin.trans h) c f
  · exact stayWith (t := t.blockSub m.subIndex f) h c f
  · exact stayWith (t := (t.blockSub m.subIndex f).bump .tagClashes) h c f
  · exact stayWith (t := (t.blockSub m.subIndex f).latch .outstandingFull) h c f
  · next i _ =>
    have hput : ((t.putMsg i.slot { m with link := some ⟨w.serial, w.sent, c.items.length⟩ })).claims.openWin =
        t.claims.openWin := by rw [((ClaimsKept.refl t).putMsg _ _).openWin]
    unfold State.takeItem OpenKept
    dsimp only
    split
    · exact hput.trans h
    · exact hput.trans h

theorem OpenKept.composeStep (s : State) : OpenKept s s.composeStep := by
  unfold State.composeStep
  split
  · next c w _ _ =>
    split
    · rfl
    · split
      · split
        · next f a _ _ slot _ =>
          have hgiven : OpenKept s ((s.withClaims { s.claims with arbiter := a }).giveNext w.air.window f slot) := rfl
          refine (((ClaimsKept.refl _).noteReads _).openWin).trans ?_
          split
          · exact hgiven.treatMessage c w f slot _
          · exact hgiven.stayWith c f
        · rfl
      · rfl
  · rfl

/-- A step is made by a composition in flight alone, whose clock and window stay. -/
theorem ClaimsBacked.composeStep {s : State} (hs : ClaimsBacked s) : ClaimsBacked s.composeStep := by
  have hclock : s.composeStep.clock = s.clock :=
    (by simp [besideClock] : KeptBut besideClock s s.composeStep) .clock (by simp [besideClock])
  by_cases hslot : s.claims.slot.busy = true
  · intro _
    rw [hclock, OpenKept.composeStep s]
    exact hs hslot
  · have hidle : s.composeStep = s := by
      unfold State.composeStep
      split
      · next hcomposing _ => exact absurd (by rw [hcomposing]; rfl) hslot
      · rfl
    rwa [hidle]

theorem ClaimsBacked.composeEnd {s : State} (hs : ClaimsBacked s) : ClaimsBacked s.composeEnd := by
  unfold State.composeEnd
  split
  · next hslot =>
    have hback := hs (by rw [hslot]; rfl)
    refine .ite (fun _ => hback) ?_
    split
    · exact fun _ => hback
    · exact hs
  · exact hs

theorem State.composeEnd_startTest (s : State) : s.composeEnd.claims.startTest = s.claims.startTest := by
  unfold State.composeEnd
  split
  · split
    · rfl
    · split
      · rfl
      · rfl
  · rfl

/-- A claim kept as sent leaves its slot, whatever has become of its items. -/
theorem State.keepSent_claims (s : State) (w : WindowRec) (c : Composition) :
    (s.keepSent w c).claims.slot = .sent ∧ (s.keepSent w c).claims.startTest = s.claims.startTest := by
  have hmarks : (c.items.foldl State.markSent s).claims = s.claims :=
    (by simp [besideClaims, keptBut_foldl] : KeptBut besideClaims s (c.items.foldl State.markSent s)) .claims
      (by simp [besideClaims])
  refine ⟨rfl, ?_⟩
  rw [← hmarks]
  rfl

theorem ClaimsBacked.claimSent {s : State} (hs : ClaimsBacked s) : ClaimsBacked s.claimSent := by
  unfold State.claimSent
  split
  · refine .ite (fun hbusy => hs hbusy) ?_
    split
    · exact .of_free (by rw [(State.keepSent_claims _ _ _).1]; rfl)
    · exact fun hbusy => hs hbusy
  · exact hs

theorem State.claimSent_startTest (s : State) : s.claimSent.claims.startTest = s.claims.startTest := by
  unfold State.claimSent
  split
  · dsimp only
    split
    · rfl
    · split
      · exact (State.keepSent_claims _ _ _).2
      · rfl
  · rfl

/-! ### The law across a step -/

/-- The parts beside the Setup and Fault Unit's state. -/
def besideUnit : List Part :=
  [.pending, .now, .faults, .stats, .span, .subs, .intake, .store, .clock, .claims, .tracker, .charge, .queue, .parity]

/-- What the law says beside the absence of an outstanding test. -/
def ClaimsStand (s : State) : Prop :=
  (s.unit.engine = .service → ClaimsBacked s) ∧ (s.unit.engine = .recovery → s.claims.slot = .idle) ∧
    (s.unit.engine = .init → s.unit.initPhase = .sweep → s.claims.slot = .idle)

theorem claimsNeedTracking_iff (s : State) :
    ClaimsNeedTracking s ↔ s.claims.startTest = false ∧ ClaimsStand s := Iff.rfl

/-- The parts that the law does not read. -/
def besideClaimsLaw : List Part :=
  [.pending, .now, .faults, .stats, .span, .subs, .intake, .store, .tracker, .charge, .queue, .parity]

theorem ClaimsNeedTracking.of_keptBut {s t : State} (hs : ClaimsNeedTracking s) (h : KeptBut besideClaimsLaw s t) :
    ClaimsNeedTracking t := by
  have hclaims : t.claims = s.claims := h .claims (by simp [besideClaimsLaw])
  have hclock : t.clock = s.clock := h .clock (by simp [besideClaimsLaw])
  have hunit : t.unit = s.unit := h .unit (by simp [besideClaimsLaw])
  unfold ClaimsNeedTracking
  rwa [hclaims, hclock, hunit]

/-- An act of the engine in SERVICE, which leaves its unit, keeps the law if it keeps the claim slot backed. -/
theorem ClaimsNeedTracking.in_service {t : State} (hservice : t.unit.engine = .service)
    (htest : t.claims.startTest = false) (hbacked : ClaimsBacked t) : ClaimsNeedTracking t := by
  refine ⟨htest, fun _ => hbacked, fun h => ?_, fun h => ?_⟩
  · rw [hservice] at h
    cases h
  · rw [hservice] at h
    cases h

theorem ClaimsNeedTracking.cold {t : State} (h : t.claims = ClaimBuilder.cold) : ClaimsNeedTracking t := by
  unfold ClaimsNeedTracking
  rw [h]
  exact ⟨rfl, fun _ hbusy => (by cases hbusy), fun _ => rfl, fun _ _ => rfl⟩

theorem State.serving_iff (s : State) : s.serving = true ↔ s.unit.engine = .service ∧ s.unit.resetLow = false := by
  simp [State.serving]

/-- An act within which R103 tests at the end. -/
theorem ClaimsNeedTracking.tested {u : State} (hservice : u.unit.engine = .service) (hbacked : ClaimsBacked u) :
    ClaimsNeedTracking u.testStart :=
  .in_service (by rwa [State.testStart_unit]) u.testStart_startTest hbacked.testStart

/-- A reaction that leaves the windows. -/
theorem ClaimsNeedTracking.tested_kept {u v : State} (hservice : u.unit.engine = .service) (hbacked : ClaimsBacked u)
    (hunit : v.unit = u.unit) (hkept : ClaimsKept u v) : ClaimsNeedTracking v.testStart :=
  .tested (by rwa [hunit]) (hkept.backed hbacked)

theorem ClaimsNeedTracking.handOver {u : State} (hservice : u.unit.engine = .service) (hbacked : ClaimsBacked u)
    (h : Header) (e : Env) (b : Body) : ClaimsNeedTracking (u.handOver h e b).testStart := by
  have hbeside {v : State} (hv : KeptBut besideClaimsLaw u v) : ClaimsNeedTracking v.testStart :=
    .tested_kept hservice hbacked (hv .unit (by simp [besideClaimsLaw]))
      ((ClaimsKept.refl u).beside (hv.mono (by simp [besideClaimsLaw, besideClaims])))
  have hunit {v : State} (hv : KeptBut besideUnit u v) : v.unit = u.unit := hv .unit (by simp [besideUnit])
  cases b with
  | mark x =>
    exact .tested (by rwa [State.handOver, hunit (by simp [besideUnit])]) (hbacked.takeMark e x)
  | report x => exact .tested (by rwa [State.handOver, hunit (by simp [besideUnit])]) (hbacked.takeReport x)
  | claim x => exact .tested (by rwa [State.handOver, hunit (by simp [besideUnit])]) (hbacked.takeClaim _ x)
  | heard x =>
    exact .tested_kept hservice hbacked (hunit (by simp [besideUnit, State.handOver])) ((ClaimsKept.refl u).takeHeard x)
  | deposit x =>
    exact .tested_kept hservice hbacked (hunit (by simp [besideUnit, State.handOver]))
      ((ClaimsKept.refl u).takeDeposit _ x)
  | load op x =>
    exact .tested_kept hservice hbacked (hunit (by simp [besideUnit, State.handOver]))
      ((ClaimsKept.refl u).takeLoad _ _ op x)
  | tariffStage x => exact hbeside (by simp [besideClaimsLaw, State.handOver])
  | credit x => exact hbeside (by simp [besideClaimsLaw, State.handOver])
  | periodClose p => exact hbeside (by simp [besideClaimsLaw, State.handOver])
  | query k x => exact hbeside (by simp [besideClaimsLaw, State.handOver])
  | restart =>
    have hcold : (u.handOver h e .restart).claims = ClaimBuilder.cold := by
      simp [State.handOver, State.takeRestart, State.coldOnChip]
    rw [State.testStart_idle _ (by rw [hcold]; rfl)]
    exact .cold hcold
  | _ x =>
    exact .tested_kept hservice hbacked (hunit (by simp [besideUnit, State.handOver]))
      ((ClaimsKept.refl u).takeRecall _ x)

theorem State.service_of_takes {s : State} {h : Header} {b : Body} (htakes : s.takes h b = true) :
    s.unit.engine = .service := by
  have hlisten := (State.takes_eq_true.1 htakes).1
  simp only [State.listening, Bool.and_eq_true, State.serving_iff] at hlisten
  exact hlisten.1.1

theorem ClaimsNeedTracking.hear {s : State} (hs : ClaimsNeedTracking s) (h : Header) (e : Env) (b : Body) :
    ClaimsNeedTracking (s.hear h e b fun t => t.handOver h e b) := by
  rcases s.hear_cases h e b (fun t => t.handOver h e b) with hdrop | ⟨htakes, heq⟩
  · exact hs.of_keptBut (hdrop.mono (by simp [besideClaimsLaw]))
  · rw [heq]
    have hservice := State.service_of_takes htakes
    exact .handOver (u := s.atFrame h e) hservice (hs.2.1 hservice) _ _ _

theorem ClaimsNeedTracking.hearWire {s : State} (hs : ClaimsNeedTracking s) (e : Env) (f : WireFrame) :
    ClaimsNeedTracking (s.hearWire e f) := by
  rcases s.hearWire_cases e f with hdrop | ⟨b, htakes, heq⟩
  · exact hs.of_keptBut (hdrop.mono (by simp [besideClaimsLaw]))
  · rw [heq]
    have hservice := State.service_of_takes htakes
    exact .handOver (u := s.atFrame f.head e) hservice (hs.2.1 hservice) _ _ _

/-! ### The commands -/

/-- The frame that a frame's command stands for. -/
def frameOfCommand : Instr → Option (Header × Env × Body)
  | .mark h e b => some (h, e, .mark b)
  | .report h e b => some (h, e, .report b)
  | .claim h e b => some (h, e, .claim b)
  | .heard h e b => some (h, e, .heard b)
  | .deposit h e b => some (h, e, .deposit b)
  | .recall h e b => some (h, e, .recall b)
  | .loadSet h e b => some (h, e, .load 0 b)
  | .loadVacate h e b => some (h, e, .load 1 b)
  | .loadOtherOperation h e op b => some (h, e, .load op b)
  | .tariffStage h e b => some (h, e, .tariffStage b)
  | .credit h e b => some (h, e, .credit b)
  | .periodClose h e p => some (h, e, .periodClose p)
  | .queryStats h e tag arg => some (h, e, .query 0 ⟨tag, 0, arg⟩)
  | .queryStatsClear h e tag arg => some (h, e, .query 0 ⟨tag, 1, arg⟩)
  | .querySubscriber h e b => some (h, e, .query 1 b)
  | .queryMessage h e b => some (h, e, .query 2 b)
  | .queryClock h e b => some (h, e, .query 3 b)
  | .restart h e => some (h, e, .restart)
  | _ => none

/-- Only what the owner makes of a taken frame matters. -/
theorem State.hear_congr (s : State) (h : Header) (e : Env) (b : Body) {act act' : State → State}
    (hact : act (s.atFrame h e) = act' (s.atFrame h e)) : s.hear h e b act = s.hear h e b act' := by
  unfold State.atFrame at hact
  unfold State.hear
  dsimp only
  rw [hact]

/-- Every frame's command hands its frame to the block that owns the kind. -/
theorem exec_frameOfCommand {c : Instr} {h : Header} {e : Env} {b : Body} (hc : frameOfCommand c = some (h, e, b))
    (s : State) : exec c s = .next (s.hear h e b fun t => t.handOver h e b) := by
  have hmeaning (act : State → State) (hexec : exec c s = .next (s.hear h e b act))
      (hact : act (s.atFrame h e) = (s.atFrame h e).handOver h e b) :
      exec c s = .next (s.hear h e b fun t => t.handOver h e b) := by
    rw [hexec, s.hear_congr h e b (act' := fun t => t.handOver h e b) hact]
  cases c <;> cases hc <;> exact hmeaning _ rfl rfl

theorem ClaimsNeedTracking.setupRead {s : State} (hs : ClaimsNeedTracking s) (line : SetupLine) (straps : BitVec 5) :
    ClaimsNeedTracking (s.setupRead line straps) := by
  unfold State.setupRead
  split
  · dsimp only
    split
    · exact .cold rfl
    · exact .cold rfl
  · exact hs

theorem ClaimsNeedTracking.initDone {s : State} (hs : ClaimsNeedTracking s) : ClaimsNeedTracking s.initDone := by
  unfold State.initDone
  split
  · next hsweeping =>
    simp only [State.sweepingInit, Bool.and_eq_true, decide_eq_true_eq] at hsweeping
    have hidle : s.claims.slot = .idle := hs.2.2.2 hsweeping.1.1 hsweeping.1.2
    exact .in_service rfl hs.1 (.of_free (by
      show s.claims.slot.busy = false
      rw [hidle]
      rfl))
  · exact hs

theorem State.recovering_iff (s : State) :
    s.recovering = true ↔ s.unit.engine = .recovery ∧ s.unit.resetLow = false := by simp [State.recovering]

theorem ClaimsNeedTracking.recoveryStep {s : State} (hs : ClaimsNeedTracking s) (e : Env) :
    ClaimsNeedTracking (s.recoveryStep e) := by
  by_cases hrecovery : s.unit.engine = .recovery
  · have hidle : s.claims.slot = .idle := hs.2.2.1 hrecovery
    have hkept := (ClaimsKept.refl s).recoveryStep e
    have hidle' : (s.recoveryStep e).claims.slot = .idle := hkept.idle hidle
    refine ⟨(hkept.test hidle).trans hs.1, fun _ => ?_, fun _ => hidle', fun _ _ => hidle'⟩
    exact ClaimsBacked.of_free (by rw [hidle']; rfl)
  · have hstay : s.recoveryStep e = s := by
      unfold State.recoveryStep
      split
      · rw [if_neg fun h => hrecovery (s.recovering_iff.1 h).1]
      · rfl
    rwa [hstay]

theorem ClaimsNeedTracking.recoveryDone {s : State} (hs : ClaimsNeedTracking s) (e : Env) :
    ClaimsNeedTracking (s.recoveryDone e) := by
  unfold State.recoveryDone
  split
  · split
    · next hover =>
      have hidle : s.claims.slot = .idle := hs.2.2.1 (s.recovering_iff.1 (Bool.and_eq_true_iff.1 hover).1).1
      have hclaims : (s.advance e.moment).claims = s.claims := rfl
      refine .in_service ?_ ?_ (.of_free ?_)
      · simp
      · simpa [hclaims] using hs.1
      · simp [hclaims, hidle, ClaimSlot.busy]
    · exact hs
  · exact hs

/-- A served act whose reaction to R103 is not tested. -/
theorem ClaimsNeedTracking.untested {s u : State} (hs : ClaimsNeedTracking s) (hservice : s.unit.engine = .service)
    (hu : KeptBut besideUnit s u) (htest : u.claims.startTest = s.claims.startTest) (hbacked : ClaimsBacked u) :
    ClaimsNeedTracking u :=
  .in_service (by rw [hu .unit (by simp [besideUnit]), hservice]) (htest.trans hs.1) hbacked

theorem ClaimsNeedTracking.exec_other {c : Instr} (hc : frameOfCommand c = none) {s t : State}
    (hs : ClaimsNeedTracking s) (h : exec c s = .next t) : ClaimsNeedTracking t := by
  have hserved {p : Bool} {u : State} (hp : p = true → s.serving = true)
      (hu : s.unit.engine = .service → ClaimsNeedTracking u) :
      ClaimsNeedTracking (if p then u else s) := by
    split
    · exact hu (s.serving_iff.1 (hp ‹_›)).1
    · exact hs
  have hback (m : Nat) (hservice : s.unit.engine = .service) : ClaimsBacked (s.advance m) := hs.2.1 hservice
  have hbeside {u : State} (hu : KeptBut besideUnit s u) (hservice : s.unit.engine = .service) :
      u.unit.engine = .service := by rw [hu .unit (by simp [besideUnit]), hservice]
  cases c <;> simp only [frameOfCommand, reduceCtorEq] at hc <;> injection h with h <;> subst h
  case resetAsserted n =>
    unfold State.assertReset
    split
    · exact hs
    · exact .cold rfl
  case resetReleased =>
    unfold State.releaseReset
    split
    · exact ⟨hs.1, nofun, nofun, nofun⟩
    · exact hs
  case setupReadComplete e line straps =>
    exact ClaimsNeedTracking.setupRead (s := s.advance e.moment) hs line straps
  case initSweepComplete => exact hs.initDone
  case recoverySweepStep e => exact hs.recoveryStep e
  case recoverySweepComplete e => exact hs.recoveryDone e
  case frameBad => exact hs.hearWire _ _
  case headerMalformed => exact hs.hearWire _ _
  case frameNotTaken => exact hs.hearWire _ _
  case misdirectedFrame => exact hs.hearWire _ _
  case malformedFrameBody => exact hs.hearWire _ _
  case coastExpiry e =>
    exact hserved id fun hservice => .tested (hbeside (by simp [besideUnit]) hservice)
      (ClaimsBacked.coast (hs.2.1 hservice) e)
  case compositionStep e =>
    exact hserved (fun h => (Bool.and_eq_true_iff.1 h).1) fun hservice =>
      .tested (hbeside (by simp [besideUnit]) hservice) (hback e.moment hservice).composeStep
  case compositionEnd e =>
    exact hserved (fun h => (Bool.and_eq_true_iff.1 h).1) fun hservice =>
      hs.untested hservice (by simp [besideUnit]) (State.composeEnd_startTest _) (hback e.moment hservice).composeEnd
  case claimReportedSent e =>
    exact hserved id fun hservice =>
      hs.untested hservice (by simp [besideUnit]) (State.claimSent_startTest _) (hback e.moment hservice).claimSent
  case delayedDepositRun e =>
    exact hserved id fun hservice => .tested (hbeside (by simp [besideUnit]) hservice)
      ((ClaimsKept.refl _).delayedRun.backed (hback e.moment hservice))
  all_goals exact hs.of_keptBut (by simp [besideClaimsLaw])

theorem ClaimsNeedTracking.exec {c : Instr} {s t : State} (hs : ClaimsNeedTracking s) (h : exec c s = .next t) :
    ClaimsNeedTracking t := by
  rcases hframe : frameOfCommand c with _ | ⟨hd, e, b⟩
  · exact hs.exec_other hframe h
  · rw [exec_frameOfCommand hframe] at h
    injection h with h
    exact h ▸ hs.hear hd e b

/-- Settles O58: a composition or prepared claim comes only from a test of R103 that finds TRACKING and a window OPEN,
and whatever takes either away frees the claim slot. -/
theorem claimsStayWithTracking : Obligations.ClaimsStayWithTracking := by
  intro s t hs h
  unfold Machine.step at h
  split at h
  · injection h with h
    exact h ▸ hs
  · next rest _ => exact ClaimsNeedTracking.exec (s := s.withPending rest) hs h

end Sys2Proof.Machine
end

section
/-! Frames on the Span: a body laid out as its kind says is read back as it was (section 1.8), so a whole frame with a
good check is heard as the command of its kind (R7 to R12); and the frames heard while the Span Port does not receive
(R13). -/

namespace Sys2Proof.Machine

/-! ### Fields of several bytes -/

theorem append_bytes16 (v : BitVec 16) : (v.extractLsb' 8 8 ++ v.extractLsb' 0 8 : BitVec 16) = v := by
  ext i hi
  simp only [BitVec.getElem_append, BitVec.getElem_extractLsb']
  split
  · simp [BitVec.getLsbD_eq_getElem hi]
  · simp [BitVec.getLsbD_eq_getElem hi, show 8 + (i - 8) = i by omega]

theorem append_bytes24 (v : BitVec 24) :
    (v.extractLsb' 16 8 ++ v.extractLsb' 8 8 ++ v.extractLsb' 0 8 : BitVec 24) = v := by
  ext i hi
  simp only [BitVec.getElem_append, BitVec.getElem_extractLsb']
  split
  · simp [BitVec.getLsbD_eq_getElem hi]
  · split
    · simp [BitVec.getLsbD_eq_getElem hi, show 8 + (i - 8) = i by omega]
    · simp [BitVec.getLsbD_eq_getElem hi, show 16 + (i - 8 - 8) = i by omega]

theorem append_bytes32 (v : BitVec 32) :
    (v.extractLsb' 24 8 ++ v.extractLsb' 16 8 ++ v.extractLsb' 8 8 ++ v.extractLsb' 0 8 : BitVec 32) = v := by
  ext i hi
  simp only [BitVec.getElem_append, BitVec.getElem_extractLsb']
  split
  · simp [BitVec.getLsbD_eq_getElem hi]
  · split
    · simp [BitVec.getLsbD_eq_getElem hi, show 8 + (i - 8) = i by omega]
    · split
      · simp [BitVec.getLsbD_eq_getElem hi, show 16 + (i - 8 - 8) = i by omega]
      · simp [BitVec.getLsbD_eq_getElem hi, show 24 + (i - 8 - 8 - 8) = i by omega]

/-! ### Lists of fields, entries and items -/

theorem words16_flatMap (l : List (BitVec 16)) : words16 (l.flatMap bytes16) = l := by
  induction l with
  | nil => rfl
  | cons v l ih => simp [bytes16, words16, append_bytes16, ih]

theorem readEntries_flatMap (l : List ReportEntry) : readEntries (l.flatMap entryBytes) = some l := by
  induction l with
  | nil => rfl
  | cons x l ih => simp [entryBytes, readEntries, ih]

theorem readItems_flatMap (l : List ClaimItem) : readItems (l.flatMap claimItemBytes) = some l := by
  induction l with
  | nil => rfl
  | cons x l ih => simp [claimItemBytes, bytes24, bytes16, readItems, append_bytes16, append_bytes24, ih]

theorem length_flatMap_const {α : Type} (f : α → List Byte) (n : Nat) (hf : ∀ x, (f x).length = n) (l : List α) :
    (l.flatMap f).length = n * l.length := by
  induction l with
  | nil => rfl
  | cons x l ih => rw [List.flatMap_cons, List.length_append, hf, ih, List.length_cons, Nat.mul_succ, Nat.add_comm]

theorem toNat_byte_of_le {n : Nat} (h : n ≤ 255) : (BitVec.ofNat 8 n).toNat = n := by
  rw [BitVec.toNat_ofNat]
  omega

/-! ### Whole bodies -/

theorem readBody_mark {words : List Byte} (hwords : words.length = 32) (lap : BitVec 16) (window : Byte)
    (zones : ZoneSet) :
    readBody .mark (bytes16 lap ++ [window] ++ words ++ bytes16 zones) =
      some (.mark ⟨lap, window, words16 words, zones⟩) := by
  have hlen : (words ++ bytes16 zones).length = 34 := by
    rw [List.length_append, hwords]
    rfl
  have h32 : (words ++ bytes16 zones).getD 32 0 = zones.extractLsb' 8 8 := by
    rw [List.getD_eq_getElem?_getD, List.getElem?_append_right (Nat.le_of_eq hwords), hwords]
    rfl
  have h33 : (words ++ bytes16 zones).getD 33 0 = zones.extractLsb' 0 8 := by
    rw [List.getD_eq_getElem?_getD, List.getElem?_append_right (by omega), hwords]
    rfl
  have htake : (words ++ bytes16 zones).take 32 = words := List.take_left' hwords
  calc readBody .mark (bytes16 lap ++ [window] ++ words ++ bytes16 zones)
      = if (words ++ bytes16 zones).length = 34 then
          some (.mark ⟨lap.extractLsb' 8 8 ++ lap.extractLsb' 0 8, window,
            words16 ((words ++ bytes16 zones).take 32),
            (words ++ bytes16 zones).getD 32 0 ++ (words ++ bytes16 zones).getD 33 0⟩)
        else none := by rw [List.append_assoc]; rfl
    _ = some (.mark ⟨lap, window, words16 words, zones⟩) := by
        rw [if_pos hlen, htake, h32, h33, append_bytes16, append_bytes16]

theorem readBody_report {bytes : List Byte} {l : List ReportEntry} (hread : readEntries bytes = some l) {n : Byte}
    (hn : l.length = n.toNat) (lap : BitVec 16) (window : Byte) :
    readBody .report (bytes16 lap ++ [window, n] ++ bytes) = some (.report ⟨lap, window, l⟩) := by
  calc readBody .report (bytes16 lap ++ [window, n] ++ bytes)
      = match readEntries bytes with
        | some l => if l.length = n.toNat then
            some (.report ⟨lap.extractLsb' 8 8 ++ lap.extractLsb' 0 8, window, l⟩) else none
        | none => none := rfl
    _ = some (.report ⟨lap, window, l⟩) := by
        rw [hread, append_bytes16]
        exact if_pos hn

theorem readBody_claim {bytes : List Byte} {l : List ClaimItem} (hread : readItems bytes = some l) {n : Byte}
    (hn : l.length = n.toNat) (lap : BitVec 16) (window number : Byte) :
    readBody .claim (bytes16 lap ++ [window, number, n] ++ bytes) = some (.claim ⟨lap, window, number, l⟩) := by
  calc readBody .claim (bytes16 lap ++ [window, number, n] ++ bytes)
      = match readItems bytes with
        | some l => if l.length = n.toNat then
            some (.claim ⟨lap.extractLsb' 8 8 ++ lap.extractLsb' 0 8, window, number, l⟩) else none
        | none => none := rfl
    _ = some (.claim ⟨lap, window, number, l⟩) := by
        rw [hread, append_bytes16]
        exact if_pos hn

theorem readBody_deposit {chars : List Byte} {n : BitVec 16} (hn : chars.length = n.toNat) (tag : BitVec 16)
    (number : BitVec 24) (priority kind : Byte) :
    readBody .deposit (bytes16 tag ++ bytes24 number ++ [priority, kind] ++ bytes16 n ++ chars) =
      some (.deposit ⟨tag, number, priority, kind, chars⟩) := by
  calc readBody .deposit (bytes16 tag ++ bytes24 number ++ [priority, kind] ++ bytes16 n ++ chars)
      = if chars.length = (n.extractLsb' 8 8 ++ n.extractLsb' 0 8 : BitVec 16).toNat then
          some (.deposit ⟨tag.extractLsb' 8 8 ++ tag.extractLsb' 0 8,
            number.extractLsb' 16 8 ++ number.extractLsb' 8 8 ++ number.extractLsb' 0 8, priority, kind, chars⟩)
        else none := rfl
    _ = some (.deposit ⟨tag, number, priority, kind, chars⟩) := by
        rw [append_bytes16, append_bytes16, append_bytes24]
        exact if_pos hn

/-- The reader of a kind gives back what its layout was written from. -/
theorem readBody_bodyBytes (b : Body) (hfits : bodyFits b = true) : readBody (kindOfBody b) (bodyBytes b) = some b := by
  cases b with
  | mark b =>
    have hcaps : b.caps.length = 16 := of_decide_eq_true hfits
    have hlen : (b.caps.flatMap bytes16).length = 32 := by
      rw [length_flatMap_const bytes16 2 (fun _ => rfl), hcaps]
    exact (readBody_mark hlen b.lap b.window b.zones).trans (by rw [words16_flatMap])
  | report b =>
    have hcount : b.entries.length = (BitVec.ofNat 8 b.entries.length).toNat :=
      (toNat_byte_of_le (of_decide_eq_true hfits)).symm
    rw [← readBody_report (readEntries_flatMap b.entries) hcount]
    rfl
  | claim b =>
    have hcount : b.items.length = (BitVec.ofNat 8 b.items.length).toNat :=
      (toNat_byte_of_le (of_decide_eq_true hfits)).symm
    rw [← readBody_claim (readItems_flatMap b.items) hcount]
    rfl
  | deposit b =>
    have hchars : b.chars.length ≤ 2039 := of_decide_eq_true hfits
    have hcount : b.chars.length = (BitVec.ofNat 16 b.chars.length).toNat := by
      rw [BitVec.toNat_ofNat]
      omega
    rw [← readBody_deposit hcount b.tag b.number b.priority b.kind]
    rfl
  | heard b =>
    show some (Body.heard { b with tag := _ ++ _ ++ _ }) = _
    rw [append_bytes24]
  | load op b =>
    show some (Body.load op { b with
      tag := _ ++ _, number := _ ++ _ ++ _, airTag := _ ++ _ ++ _, opening := _ ++ _ ++ _,
      threshold := _ ++ _ ++ _ }) = _
    rw [append_bytes16, append_bytes24, append_bytes24, append_bytes24, append_bytes24]
  | tariffStage b =>
    show some (Body.tariffStage { b with base := _ ++ _, rate := _ ++ _ }) = _
    rw [append_bytes16, append_bytes16]
  | credit b =>
    show some (Body.credit ⟨_ ++ _ ++ _, _ ++ _ ++ _, _ ++ _⟩) = _
    rw [append_bytes24, append_bytes24, append_bytes16]
  | periodClose p => rfl
  | query k b =>
    show some (Body.query k { b with tag := _ ++ _, arg := _ ++ _ ++ _ ++ _ }) = _
    rw [append_bytes16, append_bytes32]
  | restart => rfl
  | _ b =>
    show some (Body.recall { b with number := _ ++ _ ++ _ }) = _
    rw [append_bytes24]

theorem length_bodyBytes_le (b : Body) (hfits : bodyFits b = true) : (bodyBytes b).length ≤ 2048 := by
  cases b with
  | mark b =>
    have hcaps : b.caps.length = 16 := of_decide_eq_true hfits
    simp [bodyBytes, bytes16, length_flatMap_const bytes16 2 (fun _ => rfl), hcaps]
  | report b =>
    have hcount : b.entries.length ≤ 255 := of_decide_eq_true hfits
    simp only [bodyBytes, bytes16, List.length_append, List.length_cons, List.length_nil,
      length_flatMap_const entryBytes 3 (fun _ => rfl)]
    omega
  | claim b =>
    have hcount : b.items.length ≤ 255 := of_decide_eq_true hfits
    simp only [bodyBytes, bytes16, List.length_append, List.length_cons, List.length_nil,
      length_flatMap_const claimItemBytes 8 (fun _ => rfl)]
    omega
  | deposit b =>
    have hchars : b.chars.length ≤ 2039 := of_decide_eq_true hfits
    simp only [bodyBytes, bytes16, bytes24, List.length_append, List.length_cons, List.length_nil]
    omega
  | _ => simp [bodyBytes, bytes16, bytes24, bytes32]

/-! ### A whole frame heard -/

theorem kindOfCode_codeOfKind (k : TakenKind) : kindOfCode (codeOfKind k) = some k := by cases k <;> rfl

/-- A frame built whole passes the tests of its length, its end and its check. -/
theorem frameWith_sound (h : Header) (kind : BitVec 7) {body : List Byte} (hlen : body.length ≤ 2048) :
    frameTooLong (frameWith h kind body) = false ∧ frameShort (frameWith h kind body) = false ∧
      checkFails (frameWith h kind body) = false ∧
      (frameWith h kind body).body.take (frameWith h kind body).len.toNat = body := by
  have hcount : (BitVec.ofNat 16 body.length).toNat = body.length := by
    rw [BitVec.toNat_ofNat]
    omega
  simp [frameTooLong, frameShort, checkFails, frameWith, hcount, hlen]

/-- The receiver, on a frame as it stands on the Span, drops it or counts it or takes it as it would its body. -/
theorem State.hearWire_frameOf (s : State) (h : Header) (e : Env) {b : Body} (hfits : bodyFits b = true) :
    s.hearWire e (frameOf h b) = s.hear h e b fun t => t.handOver h e b := by
  obtain ⟨hlong, hshort, hcheck, hbody⟩ :=
    frameWith_sound h (codeOfKind (kindOfBody b)) (length_bodyBytes_le b hfits)
  have hwanted : s.wanted (frameOf h b) = if s.toSelf h || decide (h.dst = 31) then some (kindOfBody b) else none := by
    unfold State.wanted
    rw [frameOf, frameWith, kindOfCode_codeOfKind]
  have hread : readBody (kindOfBody b) ((frameOf h b).body.take (frameOf h b).len.toNat) = some b := by
    rw [frameOf, hbody, readBody_bodyBytes b hfits]
  have hhead : (frameOf h b).head = h := rfl
  have hwire : s.hearWire e (frameOf h b) =
      if !s.listening then s.frameMoment e
      else if headMalformed h then (s.frameMoment e).bump .framesMalformed
      else if !(s.toSelf h || decide (h.dst = 31)) then s.frameMoment e
      else if !s.sourceListed (kindOfBody b) h.src.toNat then (s.frameMoment e).bump .framesMisdirected
      else s.hear h e b fun t => t.handOver h e b := by
    unfold State.hearWire
    rw [hwanted, hhead, frameOf, hlong, hshort, hcheck, ← frameOf]
    cases s.toSelf h || decide (h.dst = 31)
    · rfl
    · simp only [Bool.or_self, Bool.false_eq_true, if_false, if_true, hread, Bool.not_true]
  rw [hwire]
  unfold State.hear
  dsimp only
  repeat' split
  all_goals rfl

theorem frameOfCommand_of_commandOf {h : Header} {e : Env} {b : Body} {c : Instr} (hc : commandOf h e b = some c) :
    frameOfCommand c = some (h, e, b) := by
  cases b with
  | load op b =>
    simp only [commandOf] at hc
    split at hc
    · next hop => cases hc; rw [hop]; rfl
    · split at hc
      · next hop => cases hc; rw [hop]; rfl
      · cases hc; rfl
  | query k b =>
    obtain ⟨tag, clear, arg⟩ := b
    simp only [commandOf] at hc
    split at hc
    · next hk => cases hc; rw [hk.1, hk.2]; rfl
    · split at hc
      · next hk => cases hc; rw [hk.1, hk.2]; rfl
      · split at hc
        · next hk => cases hc; rw [hk]; rfl
        · split at hc
          · next hk => cases hc; rw [hk]; rfl
          · split at hc
            · next hk => cases hc; rw [hk]; rfl
            · cases hc
  | _ => cases hc; rfl

theorem exec_commandOf {h : Header} {e : Env} {b : Body} {c : Instr} (hc : commandOf h e b = some c) (s : State) :
    exec c s = .next (s.hear h e b fun t => t.handOver h e b) := exec_frameOfCommand (frameOfCommand_of_commandOf hc) s

/-- Settles O2: the reader of a kind inverts its layout, and the tests on a whole frame are those on its body. -/
theorem frameOnWireActsAsItsCommand : Obligations.FrameOnWireActsAsItsCommand := by
  intro h e b c s hfits hc
  rw [exec_commandOf hc, s.hearWire_frameOf h e hfits]

/-- Settles O3: a deaf receiver gives up a frame at its moment. -/
theorem framesIgnoredUnlessReceiving : Obligations.FramesIgnoredUnlessReceiving := by
  intro h e b c f s hdeaf
  refine ⟨fun hc => ?_, fun d hd => ?_⟩
  · rw [exec_commandOf hc, s.hear_deaf h e b _ hdeaf]
    rfl
  · have hwire : exec d s = .next (s.hearWire e f) := by
      simp only [List.mem_cons, List.not_mem_nil, or_false] at hd
      rcases hd with rfl | rfl | rfl | rfl | rfl <;> rfl
    rw [hwire, s.hearWire_deaf e f hdeaf]
    rfl

end Sys2Proof.Machine
end

section
/-! The setup block (section 10.1, R173, R174): the numbers its bytes stand for, the checks it passes, and the copy made
of it. -/

namespace Sys2Proof.Machine

/-! ### Fields of the block -/

theorem foldl_bytes_lt (l : List Byte) (a : Nat) :
    l.foldl (fun acc b => acc * 256 + b.toNat) a < (a + 1) * 256 ^ l.length := by
  induction l generalizing a with
  | nil => simp
  | cons b l ih =>
    have hb : b.toNat < 256 := b.isLt
    calc l.foldl (fun acc b => acc * 256 + b.toNat) (a * 256 + b.toNat)
        < (a * 256 + b.toNat + 1) * 256 ^ l.length := ih _
      _ ≤ ((a + 1) * 256) * 256 ^ l.length := Nat.mul_le_mul_right _ (by omega)
      _ = (a + 1) * 256 ^ (b :: l).length := by rw [List.length_cons, Nat.pow_succ, Nat.mul_assoc, Nat.mul_comm 256]

/-- A field of `n` bytes is below 256 to the `n`. -/
theorem fieldAt_lt (bytes : List Byte) (place n : Nat) : fieldAt bytes place n < 256 ^ n := by
  have hlt := foldl_bytes_lt ((bytes.drop place).take n) 0
  have hlen : ((bytes.drop place).take n).length ≤ n := List.length_take_le _ _
  calc fieldAt bytes place n < (0 + 1) * 256 ^ ((bytes.drop place).take n).length := hlt
    _ ≤ 256 ^ n := by rw [Nat.zero_add, Nat.one_mul]; exact Nat.pow_le_pow_right (by omega) hlen

theorem fieldAt_one_le (bytes : List Byte) (place : Nat) : fieldAt bytes place 1 ≤ 255 :=
  Nat.le_of_lt_succ (fieldAt_lt bytes place 1)

theorem fieldAt_three_le (bytes : List Byte) (place : Nat) : fieldAt bytes place 3 ≤ 16777215 :=
  Nat.le_of_lt_succ (fieldAt_lt bytes place 3)

/-! ### Windows apart -/

/-- Two windows share a number exactly when some number of 24 bits lies in both. -/
theorem windowsShare_iff {a b : NumWindow} (ha : a.first ≤ 16777215) (hb : b.first ≤ 16777215) :
    windowsShare a b = true ↔
      ∃ n ≤ 16777215, a.first ≤ n ∧ n < a.first + a.count ∧ b.first ≤ n ∧ n < b.first + b.count := by
  simp only [windowsShare, decide_eq_true_eq]
  constructor
  · rintro ⟨hac, hbc, hab, hba⟩
    exact ⟨max a.first b.first, by omega⟩
  · rintro ⟨n, hn⟩
    omega

/-- Windows are apart when no two of them share. -/
theorem windowsApart_iff (l : List NumWindow) :
    windowsApart l = true ↔ l.Pairwise (fun a b => windowsShare a b = false) := by
  induction l with
  | nil => simp [windowsApart]
  | cons w l ih => simp [windowsApart, ih]

/-- The four windows of the block are apart exactly when no number is owned twice (R174). -/
theorem windowsApart_setup_iff (bytes : List Byte) :
    windowsApart (setupOf bytes).windows = true ↔
      ∀ j k n, j < k → k < 4 → n ≤ 16777215 →
        ¬ (fieldAt bytes (7 + 5 * j) 3 ≤ n ∧ n < fieldAt bytes (7 + 5 * j) 3 + fieldAt bytes (10 + 5 * j) 2 ∧
           fieldAt bytes (7 + 5 * k) 3 ≤ n ∧ n < fieldAt bytes (7 + 5 * k) 3 + fieldAt bytes (10 + 5 * k) 2) := by
  have hshare (j k : Nat) := windowsShare_iff (a := windowAt bytes j) (b := windowAt bytes k)
    (fieldAt_three_le bytes _) (fieldAt_three_le bytes _)
  have hpair : windowsApart (setupOf bytes).windows = true ↔
      ∀ j k, j < k → k < 4 → ¬ windowsShare (windowAt bytes j) (windowAt bytes k) = true := by
    have hlist : (setupOf bytes).windows = (List.range 4).map (windowAt bytes) := rfl
    rw [windowsApart_iff, hlist, List.pairwise_map, List.pairwise_iff_getElem]
    simp only [List.getElem_range, List.length_range, Bool.not_eq_true]
    exact ⟨fun h j k hjk hk => h j k (Nat.lt_trans hjk hk) hk hjk, fun h j k _ hk hjk => h j k hjk hk⟩
  rw [hpair]
  refine forall_congr' fun j => forall_congr' fun k => ?_
  rw [hshare j k]
  simp only [windowAt]
  exact ⟨fun h n hjk hk hn hin => h hjk hk ⟨n, hn, hin⟩, fun h hjk hk ⟨n, hn, hin⟩ => h n hjk hk hn hin⟩

/-! ### The checks -/

theorem within_iff (bytes : List Byte) (place n lo hi : Nat) :
    within bytes place n lo hi = true ↔ lo ≤ fieldAt bytes place n ∧ fieldAt bytes place n ≤ hi := by simp [within]

theorem setupOk_iff (bytes : List Byte) (straps : BitVec 5) :
    setupOk bytes straps = true ↔
      sumOk bytes = true ∧ fieldAt bytes 0 1 = straps.toNat ∧ fieldsOk bytes = true ∧
        windowsApart (setupOf bytes).windows = true ∧
        fieldAt bytes 10 2 + fieldAt bytes 15 2 + fieldAt bytes 20 2 + fieldAt bytes 25 2 ≤ 32768 := by
  have hsum : ((setupOf bytes).windows.map NumWindow.count).sum =
      fieldAt bytes 10 2 + fieldAt bytes 15 2 + fieldAt bytes 20 2 + fieldAt bytes 25 2 := by
    simp [setupOf, windowAt, Nat.add_assoc]
  unfold setupOk
  rw [hsum]
  simp only [Bool.and_eq_true, decide_eq_true_eq, and_assoc]
  rfl

theorem forall_lt_four (P : Nat → Prop) : (∀ k < 4, P k) ↔ P 0 ∧ P 1 ∧ P 2 ∧ P 3 := by
  constructor
  · exact fun h => ⟨h 0 (by omega), h 1 (by omega), h 2 (by omega), h 3 (by omega)⟩
  · rintro ⟨h0, h1, h2, h3⟩ k hk
    exact match k, hk with
      | 0, _ => h0
      | 1, _ => h1
      | 2, _ => h2
      | 3, _ => h3
      | _ + 4, hk => absurd hk (by omega)

/-- The fields' ranges, those that every byte meets left out. -/
theorem fieldsOk_iff (bytes : List Byte) :
    fieldsOk bytes = true ↔
      (∀ place ∈ [0, 1, 2, 3, 5], fieldAt bytes place 1 ≤ 30) ∧
      (fieldAt bytes 4 1 = 1 ∨ fieldAt bytes 4 1 = 2) ∧ (fieldAt bytes 4 1 = 2 → fieldAt bytes 6 1 ≤ 30) ∧
      (∀ k < 4, fieldAt bytes (10 + 5 * k) 2 ≤ 32768) ∧
      (1 ≤ fieldAt bytes 27 1 ∧ fieldAt bytes 27 1 ≤ 4) ∧ (1 ≤ fieldAt bytes 28 1 ∧ fieldAt bytes 28 1 ≤ 15) ∧
      1 ≤ fieldAt bytes 29 1 ∧ 1 ≤ fieldAt bytes 30 1 ∧
      (∀ place ∈ [31, 33, 35], fieldAt bytes place 1 ≤ 1) ∧
      (∀ place ∈ [32, 34, 36], 1 ≤ fieldAt bytes place 1 ∧ fieldAt bytes place 1 ≤ 8) ∧
      fieldAt bytes 37 2 ≤ 1024 ∧ (512 ≤ fieldAt bytes 39 2 ∧ fieldAt bytes 39 2 ≤ 1000) ∧
      (2 ≤ fieldAt bytes 41 1 ∧ fieldAt bytes 41 1 ≤ 60) := by
  have h29 := fieldAt_one_le bytes 29
  have h30 := fieldAt_one_le bytes 30
  rw [forall_lt_four]
  simp only [fieldsOk, Bool.and_eq_true, Bool.or_eq_true, within_iff, bne_iff_ne, List.forall_mem_cons,
    List.not_mem_nil, false_imp_iff, implies_true, and_true, Nat.reduceMul, Nat.reduceAdd]
  omega

/-- A block of own station number above 30 is rejected. -/
theorem setupOk_eq_false_of_own {bytes : List Byte} (h : 30 < fieldAt bytes 0 1) (straps : BitVec 5) :
    setupOk bytes straps = false := by
  rw [Bool.eq_false_iff]
  intro hok
  obtain ⟨_, _, hfields, _⟩ := (setupOk_iff bytes straps).1 hok
  simp only [fieldsOk, Bool.and_eq_true, within_iff] at hfields
  omega

/-- Settles O8: the ranges of one-byte fields up to 255 and of the first numbers hold of any bytes. -/
theorem setupBlockAcceptedExactly : Obligations.SetupBlockAcceptedExactly := by
  refine ⟨fun bytes straps _ => ?_, fun straps => ⟨?_, ?_, ?_⟩, fun bytes => ?_⟩
  · have hsum : sumOk bytes = true ↔ fieldAt bytes 126 2 = ((bytes.take 126).map BitVec.toNat).sum % 65536 := by
      simp [sumOk]
    rw [setupOk_iff, windowsApart_setup_iff, fieldsOk_iff, hsum]
    simp only [and_assoc]
  · exact setupOk_eq_false_of_own (by decide) straps
  · rw [Bool.eq_false_iff]
    intro hok
    obtain ⟨_, _, hfields, _⟩ := (setupOk_iff _ straps).1 hok
    exact absurd hfields (by decide)
  · exact setupOk_eq_false_of_own (by decide) straps
  · rw [Bool.eq_false_iff]
    intro hok
    obtain ⟨_, hown, _⟩ := (setupOk_iff bytes 31).1 hok
    rw [setupOk_eq_false_of_own (by rw [hown]; decide)] at hok
    cases hok

/-! ### The bytes read, and the copy -/

theorem length_setupBytes (line : SetupLine) : (setupBytes line).length = 128 := by
  cases line <;> simp [setupBytes]

theorem setupBytes_getD (line : SetupLine) {i : Nat} (hi : i < 128) :
    (setupBytes line).getD i 0 = match line with
      | .answers l => (l.getD i none).getD 255
      | .silent => 255
      | .heldLow => 0 := by
  cases line with
  | answers l => simp [setupBytes, List.getD_eq_getElem?_getD, hi]
  | silent | heldLow => rw [setupBytes, List.getD_eq_getElem?_getD, List.getElem?_replicate, if_pos hi]; rfl

/-- A block's bytes from a place on begin with the byte there. -/
theorem drop_eq_getD_cons {bytes : List Byte} {place : Nat} (h : place < bytes.length) :
    bytes.drop place = bytes.getD place 0 :: bytes.drop (place + 1) := by
  rw [List.drop_eq_getElem_cons h, List.getD_eq_getElem?_getD, List.getElem?_eq_getElem h,
    Option.getD_some]

theorem fieldAt_one {bytes : List Byte} {place : Nat} (h : place < bytes.length) :
    fieldAt bytes place 1 = (bytes.getD place 0).toNat := by
  simp [fieldAt, drop_eq_getD_cons h, numOf]

theorem fieldAt_two {bytes : List Byte} {place : Nat} (h : place + 1 < bytes.length) :
    fieldAt bytes place 2 = 256 * (bytes.getD place 0).toNat + (bytes.getD (place + 1) 0).toNat := by
  rw [fieldAt, drop_eq_getD_cons (by omega), drop_eq_getD_cons h]
  simp only [numOf, List.take_succ_cons, List.take_zero, List.foldl_cons, List.foldl_nil]
  omega

theorem fieldAt_three {bytes : List Byte} {place : Nat} (h : place + 2 < bytes.length) :
    fieldAt bytes place 3 = 65536 * (bytes.getD place 0).toNat + 256 * (bytes.getD (place + 1) 0).toNat +
      (bytes.getD (place + 2) 0).toNat := by
  rw [fieldAt, drop_eq_getD_cons (by omega), drop_eq_getD_cons (by omega), drop_eq_getD_cons h]
  simp only [numOf, List.take_succ_cons, List.take_zero, List.foldl_cons, List.foldl_nil]
  omega

/-- Each zone stands in its own neighbour mask (R173). -/
theorem hasZone_neighbourAt (bytes : List Byte) (z : Nat) {y : Nat} (hy : y < 16) :
    hasZone (neighbourAt bytes z) y = (decide (y = z) || (fieldAt bytes (42 + 2 * z) 2).testBit y) := by
  simp only [hasZone, neighbourAt, BitVec.getLsbD_or, BitVec.getLsbD_ofNat, Nat.testBit_two_pow, hy, decide_true,
    Bool.true_and, Bool.or_comm, eq_comm]

theorem setupOf_neighbours (bytes : List Byte) : (setupOf bytes).neighbours = (List.range 16).map (neighbourAt bytes) :=
  rfl

theorem State.readingSetup_iff (s : State) :
    s.readingSetup = true ↔ s.unit.engine = .init ∧ s.unit.initPhase = .setupRead ∧ s.unit.resetLow = false := by
  simp [State.readingSetup, and_assoc]

/-- The counters of the clock read 0 once its cold values are written (R95). -/
theorem tableGet_filter_clockKeys (t : Table Nat) {k : Nat} (hk : k ∈ clockKeys) :
    tableGet (t.filter fun p => !decide (p.1 ∈ clockKeys)) 0 k = 0 := by
  unfold tableGet
  cases hfind : tableFind (t.filter fun p => !decide (p.1 ∈ clockKeys)) k with
  | none => rfl
  | some v =>
    have hmem := (List.mem_filter.1 (mem_of_tableFind hfind)).2
    simp [hk] at hmem

theorem State.rejectSetup_stat (s : State) {c : Stat} (hc : statKey c ∈ clockKeys) (hother : c ≠ .latchSetupBad) :
    s.rejectSetup.stat c = 0 :=
  (State.stat_bump_other _ hother).trans (tableGet_filter_clockKeys s.stats hc)

theorem State.rejectSetup_faultLine (s : State) (h : s.unit.resetLow = false) : s.rejectSetup.faultLine = true := by
  have hunit : s.rejectSetup.unit.resetLow = s.unit.resetLow := rfl
  have hcause : s.rejectSetup.faults.causes.setupBad = true := rfl
  simp [State.faultLine, causesAny, hunit, hcause, h]

/-- Settles O7: the fields are the model's own places, and a rejected block changes what `rejectSetup` writes. -/
theorem setupReadAcceptsOrHalts : Obligations.SetupReadAcceptsOrHalts := by
  refine ⟨fun s => ⟨fun h1 h2 h3 => ?_, fun hnot => ?_⟩, fun line => ⟨length_setupBytes line, fun i hi =>
    setupBytes_getD line hi⟩, fun bytes place hlen => ⟨fun h => ?_, fun h => ?_, fun h => ?_⟩, fun bytes => ?_,
    fun e line straps s h1 h2 h3 => ?_⟩
  · rw [State.setupLine, if_pos (s.readingSetup_iff.2 ⟨h1, h2, h3⟩)]
    decide
  · rw [State.setupLine, if_neg fun h => hnot (s.readingSetup_iff.1 h)]
  · exact fieldAt_one (by omega)
  · exact fieldAt_two (by omega)
  · exact fieldAt_three (by omega)
  · refine ⟨rfl, rfl, rfl, rfl, rfl, rfl, rfl, rfl, rfl, rfl, rfl, rfl, rfl, rfl, rfl, fun z hz y hy => ?_⟩
    have hget : (setupOf bytes).neighbours.getD z 0 = neighbourAt bytes z := by
      simp [setupOf_neighbours, List.getD_eq_getElem?_getD, hz]
    rw [hget, hasZone_neighbourAt bytes z hy]
  · have hreading : (s.advance e.moment).readingSetup = true := (State.readingSetup_iff _).2 ⟨h1, h2, h3⟩
    have hexec : exec (.setupReadComplete e line straps) s = .next ((s.advance e.moment).setupRead line straps) := rfl
    refine ⟨fun hok => ?_, fun hbad => ⟨(s.advance e.moment).rejectSetup, ?_, ?_, fun c hc => ?_, ?_⟩⟩
    · rw [hexec, State.setupRead, if_pos hreading]
      dsimp only
      rw [if_pos hok]
      rfl
    · rw [hexec, State.setupRead, if_pos hreading]
      dsimp only
      rw [hbad]
      rfl
    · exact State.rejectSetup_faultLine _ h3
    · refine State.rejectSetup_stat _ (List.mem_map_of_mem hc) ?_
      rintro rfl
      exact absurd hc (by decide)
    · simp only [decide_not]
      rfl

end Sys2Proof.Machine
end

section
/-! The rules that are functions of their operands alone: parts charged for and sent (R96, R150), the last heard kept
(R131), numbers through windows (R20, R21), and the shaping of a deposit (R44 to R46). -/

namespace Sys2Proof.Machine

/-! ### Counts of the parts in a mask -/

/-- The counts of the parts in a mask are those of the places whose bit is set. -/
theorem countsIn_eq (mask : PartMask) (p : Nat) (l : List Nat) :
    countsIn mask p l = ((List.range l.length).filter fun i => hasPart mask (p + i)).map fun i => l.getD i 0 := by
  induction l generalizing p with
  | nil => rfl
  | cons c l ih =>
    have htail : ((List.map Nat.succ (List.range l.length)).filter fun i => hasPart mask (p + i)).map
        (fun i => (c :: l).getD i 0) = countsIn mask (p + 1) l := by
      rw [ih, List.filter_map, List.map_map]
      congr 1
      refine List.filter_congr fun i _ => ?_
      simp only [Function.comp, Nat.add_succ, Nat.succ_add]
    rw [List.length_cons, List.range_succ_eq_map, countsIn]
    by_cases hp : hasPart mask p = true
    · rw [if_pos hp, List.filter_cons_of_pos (by simpa using hp), List.map_cons, htail]
      rfl
    · rw [if_neg hp, List.filter_cons_of_neg (by simpa using hp), htail]

theorem countsIn_all {mask : PartMask} {p : Nat} {l : List Nat} (h : ∀ i < l.length, hasPart mask (p + i) = true) :
    countsIn mask p l = l := by
  induction l generalizing p with
  | nil => rfl
  | cons c l ih =>
    have hrest : countsIn mask (p + 1) l = l := ih fun i hi => by
      rw [Nat.succ_add_eq_add_succ]
      exact h (i + 1) (Nat.succ_lt_succ hi)
    have hhead : hasPart mask p = true := h 0 (Nat.succ_pos _)
    rw [countsIn, if_pos hhead, hrest]

/-- A sum over the parts of a mask grows with the mask. -/
theorem sum_countsIn_mono (f : Nat → Nat) {mask mask' : PartMask}
    (h : ∀ i, hasPart mask i = true → hasPart mask' i = true)
    (p : Nat) (l : List Nat) : ((countsIn mask p l).map f).sum ≤ ((countsIn mask' p l).map f).sum := by
  induction l generalizing p with
  | nil => exact Nat.le_refl _
  | cons c l ih =>
    have hrest := ih (p + 1)
    rw [countsIn, countsIn]
    by_cases hp : hasPart mask p = true
    · rw [if_pos hp, if_pos (h p hp), List.map_cons, List.map_cons, List.sum_cons, List.sum_cons]
      omega
    · rw [if_neg hp]
      split
      · rw [List.map_cons, List.sum_cons]
        omega
      · exact hrest

theorem sum_countsIn_le (mask : PartMask) (p : Nat) (l : List Nat) : (countsIn mask p l).sum ≤ l.sum := by
  induction l generalizing p with
  | nil => exact Nat.le_refl _
  | cons c l ih =>
    have hrest := ih (p + 1)
    rw [countsIn]
    split
    · rw [List.sum_cons, List.sum_cons]
      omega
    · rw [List.sum_cons]
      omega

theorem countsIn_sublist (mask : PartMask) (p : Nat) (l : List Nat) : (countsIn mask p l).Sublist l := by
  induction l generalizing p with
  | nil => exact List.Sublist.refl _
  | cons c l ih =>
    rw [countsIn]
    split
    · exact (ih _).cons_cons c
    · exact (ih _).cons c

theorem hasPart_allParts (n : Nat) {i : Nat} (hi : i < 8) : hasPart (allParts n) i = decide (i < n) := by
  rw [hasPart, allParts, BitVec.getLsbD_ofNat, Nat.testBit_two_pow_sub_one, decide_eq_true hi, Bool.true_and]

theorem lt_eight_of_hasPart {mask : PartMask} {i : Nat} (h : hasPart mask i = true) : i < 8 :=
  BitVec.lt_of_getLsbD h

theorem hasPart_partsIncluded (m : Msg) {i : Nat} (hi : i < 8) :
    hasPart (partsIncluded m) i = (decide (i < m.counts.length) && !m.held.getLsbD i) := by
  have hall := hasPart_allParts m.counts.length hi
  unfold hasPart at hall ⊢
  rw [partsIncluded, BitVec.getLsbD_and, BitVec.getLsbD_not, hall, decide_eq_true hi, Bool.true_and]

/-! ### What a settlement charges for (R150) -/

theorem hasPart_chargedMask (m : Msg) (ending : Ending) (hlen : m.counts.length ≤ 8) {i : Nat}
    (hi : i < m.counts.length) :
    hasPart (chargedMask m ending) i = (decide (ending = .sentBlind) || m.held.getLsbD i) := by
  have hall := hasPart_allParts m.counts.length (i := i) (by omega)
  cases ending <;> simp_all [chargedMask, hasPart]

theorem countsIn_chargedMask (m : Msg) (ending : Ending) (hlen : m.counts.length ≤ 8) :
    countsIn (chargedMask m ending) 0 m.counts =
      ((List.range m.counts.length).filter fun p => decide (ending = .sentBlind) || m.held.getLsbD p).map
        fun p => m.counts.getD p 0 := by
  rw [countsIn_eq]
  congr 1
  refine List.filter_congr fun i hi => ?_
  rw [Nat.zero_add, hasPart_chargedMask m ending hlen (List.mem_range.1 hi)]

theorem actualCharge_le (m : Msg) (ending : Ending) :
    actualCharge m ending ≤ chargeFor m.basis m.priority m.counts.sum := by
  unfold actualCharge
  split
  · exact Nat.zero_le _
  · exact chargeFor_mono _ _ (sum_countsIn_le _ _ _)

/-- With every part charged for, the actual charge is that of all the characters. -/
theorem actualCharge_of_all (m : Msg) (ending : Ending) (hpos : 1 ≤ m.counts.length)
    (hall : ∀ i < m.counts.length, hasPart (chargedMask m ending) i = true) :
    actualCharge m ending = chargeFor m.basis m.priority m.counts.sum := by
  have hcounts : countsIn (chargedMask m ending) 0 m.counts = m.counts :=
    countsIn_all fun i hi => by rw [Nat.zero_add, hall i hi]
  unfold actualCharge chargedChars
  rw [hcounts, if_neg (List.ne_nil_of_length_pos hpos)]

theorem getLsbD_held_of_all {m : Msg} (hlen : m.counts.length ≤ 8) (hall : allParts m.counts.length &&& ~~~ m.held = 0)
    {i : Nat} (hi : i < m.counts.length) : m.held.getLsbD i = true := by
  have hbit := hasPart_partsIncluded m (i := i) (by omega)
  unfold partsIncluded hasPart at hbit
  rw [hall, decide_eq_true hi, Bool.true_and] at hbit
  simpa using hbit

/-- Settles O38: the counts charged for are those of a mask's parts, of which R146's charge is monotone. -/
theorem actualChargeWithinHold : Obligations.ActualChargeWithinHold := by
  refine ⟨fun m ending hlen => ?_, fun m ending hhold => ⟨?_, fun hpos hlen hparts => ?_, fun hending hheld => ?_⟩⟩
  · have hcounts := countsIn_chargedMask m ending hlen
    refine ⟨by rw [chargedChars, hcounts], ?_⟩
    rw [actualCharge, chargedChars, hcounts]
    simp only [List.map_eq_nil_iff]
  · rw [hhold]
    exact actualCharge_le m ending
  · rw [hhold, actualCharge_of_all m ending hpos fun i hi => ?_]
    rw [hasPart_chargedMask m ending hlen hi]
    rcases hparts with hblind | hall
    · simp [hblind]
    · simp [getLsbD_held_of_all hlen hall hi]
  · have hmask : chargedMask m ending = 0 := by
      cases ending <;> simp_all [chargedMask]
    have hnone : countsIn (chargedMask m ending) 0 m.counts = [] := by
      rw [hmask, countsIn_eq]
      simp [hasPart]
    rw [actualCharge, if_pos hnone]

/-! ### The cost of a send (R96) -/

theorem bodyCells_le (k : Kind) {n : Nat} (hn : n ≤ 32) : bodyCells k n ≤ 11 := by
  cases k <;> simp only [bodyCells, ceilDiv] <;> omega

theorem sum_le_length_mul {l : List Nat} {b : Nat} (h : ∀ x ∈ l, x ≤ b) : l.sum ≤ l.length * b := by
  induction l with
  | nil => exact Nat.zero_le _
  | cons x l ih =>
    rw [List.sum_cons, List.length_cons, Nat.succ_mul, Nat.add_comm]
    exact Nat.add_le_add (ih fun y hy => h y (List.mem_cons_of_mem x hy)) (h x List.mem_cons_self)

theorem le_sum_of_mem {l : List Nat} {x : Nat} (h : x ∈ l) : x ≤ l.sum := by
  induction h with
  | head l => exact Nat.le_trans (Nat.le_add_right _ _) (Nat.le_of_eq List.sum_cons.symm)
  | tail y _ ih => exact Nat.le_trans ih (Nat.le_trans (Nat.le_add_left _ _) (Nat.le_of_eq List.sum_cons.symm))

theorem sendCost_le (m : Msg) (hlen : m.counts.length ≤ 8) (hcounts : ∀ c ∈ m.counts, c ≤ 32) : sendCost m ≤ 97 := by
  have hsub := countsIn_sublist (partsIncluded m) 0 m.counts
  have hsum : ((countsIn (partsIncluded m) 0 m.counts).map fun n => 1 + bodyCells m.kind n).sum ≤
      ((countsIn (partsIncluded m) 0 m.counts).map fun n => 1 + bodyCells m.kind n).length * 12 := by
    refine sum_le_length_mul fun x hx => ?_
    obtain ⟨c, hc, rfl⟩ := List.mem_map.1 hx
    have hcells := bodyCells_le m.kind (hcounts c (hsub.subset hc))
    omega
  have hle := hsub.length_le
  rw [List.length_map] at hsum
  unfold sendCost
  omega

theorem two_le_sendCost (m : Msg) (hmissing : ∃ i < m.counts.length, hasPart (partsIncluded m) i = true) :
    2 ≤ sendCost m := by
  obtain ⟨i, hi, hpart⟩ := hmissing
  have hmem : m.counts.getD i 0 ∈ countsIn (partsIncluded m) 0 m.counts := by
    rw [countsIn_eq]
    exact List.mem_map.2 ⟨i, List.mem_filter.2 ⟨List.mem_range.2 hi, by rwa [Nat.zero_add]⟩, rfl⟩
  have hle := le_sum_of_mem (List.mem_map_of_mem (f := fun n => 1 + bodyCells m.kind n) hmem)
  unfold sendCost
  omega

theorem exists_missing_part {m : Msg} (h : partsIncluded m ≠ 0) :
    ∃ i < m.counts.length, hasPart (partsIncluded m) i = true := by
  refine Classical.byContradiction fun hnone => ?_
  refine h (BitVec.eq_of_getLsbD_eq fun i hi => ?_)
  rw [show (0 : PartMask).getLsbD i = false from BitVec.getLsbD_zero, Bool.eq_false_iff]
  intro hbit
  have hpart := hasPart_partsIncluded m hi
  unfold hasPart at hpart
  rw [hbit] at hpart
  exact hnone ⟨i, by simpa using (Bool.and_eq_true_iff.1 hpart.symm).1, hbit⟩

/-- Settles O28: the parts sent are those of the mask of parts not held. -/
theorem sendCostWithinRange : Obligations.SendCostWithinRange := by
  refine ⟨fun m hlen => ?_, fun m _ hlen hcounts hmissing =>
    ⟨two_le_sendCost m (exists_missing_part hmissing), sendCost_le m hlen hcounts⟩,
    fun m hkind hcounts hheld => ?_, fun m hkind hcounts hheld => ?_, fun m held _ => ?_⟩
  · have hfilter : (List.range m.counts.length).filter (fun i => hasPart (partsIncluded m) (0 + i)) =
        (List.range m.counts.length).filter fun p => !m.held.getLsbD p := by
      refine List.filter_congr fun i hi => ?_
      have hi' := List.mem_range.1 hi
      rw [Nat.zero_add, hasPart_partsIncluded m (by omega), decide_eq_true hi', Bool.true_and]
    rw [sendCost, countsIn_eq, hfilter, List.map_map]
    congr 2
  · rw [sendCost, partsIncluded, hkind, hcounts, hheld]
    rfl
  · rw [sendCost, partsIncluded, hkind, hcounts, hheld]
    rfl
  · refine Nat.add_le_add_left (sum_countsIn_mono _ (fun i hi => ?_) 0 m.counts) 1
    have hi8 := lt_eight_of_hasPart hi
    rw [hasPart_partsIncluded _ hi8] at hi ⊢
    simp_all

/-! ### The last heard (R131) -/

/-- An offer of the same serial is preferred by its grade, and on equal grades by its zone. -/
theorem offerHeard_same {l o : LastHeard} (h : o.serial = l.serial) :
    offerHeard (some l) o = if l.grade < o.grade ∨ (o.grade = l.grade ∧ o.zone < l.zone) then o else l := by
  simp only [offerHeard, h, ne_eq, not_true_eq_false, if_false]
  split <;> grind

theorem offerHeard_mk (z g z' g' : Nat) (n : Serial) :
    offerHeard (some ⟨z, g, n⟩) ⟨z', g', n⟩ = if g < g' ∨ (g' = g ∧ z' < z) then ⟨z', g', n⟩ else ⟨z, g, n⟩ :=
  offerHeard_same rfl

theorem offerHeard_other {l o : LastHeard} (h : o.serial ≠ l.serial) : offerHeard (some l) o = o := if_pos h

/-- Two offers of one serial agree on which of them is kept. -/
theorem offerHeard_comm {o1 o2 : LastHeard} (h : o1.serial = o2.serial) :
    offerHeard (some o1) o2 = offerHeard (some o2) o1 := by
  obtain ⟨z1, g1, s1⟩ := o1
  obtain ⟨z2, g2, s2⟩ := o2
  cases h
  rw [offerHeard_mk, offerHeard_mk]
  by_cases h1 : g1 < g2 ∨ g2 = g1 ∧ z2 < z1
  · rw [if_pos h1, if_neg (by omega)]
  · by_cases h2 : g2 < g1 ∨ g1 = g2 ∧ z1 < z2
    · rw [if_neg h1, if_pos h2]
    · rw [if_neg h1, if_neg h2, show g1 = g2 by omega, show z1 = z2 by omega]

/-- Settles O33: of offers of one serial the one kept is the best, in whichever order they come. -/
theorem lastHeardOrderFree : Obligations.LastHeardOrderFree := by
  refine ⟨fun _ => rfl, fun _ _ h => offerHeard_other h, fun _ _ h => offerHeard_same h, fun held o1 o2 h => ?_⟩
  cases held with
  | none => exact offerHeard_comm h
  | some l =>
    by_cases hl : o1.serial = l.serial
    · obtain ⟨z, g, n⟩ := l
      obtain ⟨z1, g1, n1⟩ := o1
      obtain ⟨z2, g2, n2⟩ := o2
      cases h
      cases hl
      rw [offerHeard_mk z g z1 g1, offerHeard_mk z g z2 g2]
      by_cases h1 : g < g1 ∨ g1 = g ∧ z1 < z <;> by_cases h2 : g < g2 ∨ g2 = g ∧ z2 < z
      · rw [if_pos h1, if_pos h2]
        exact offerHeard_comm rfl
      · rw [if_pos h1, if_neg h2, offerHeard_mk, offerHeard_mk, if_neg (by omega), if_pos h1]
      · rw [if_neg h1, if_pos h2, offerHeard_mk, offerHeard_mk, if_pos h2, if_neg (by omega)]
      · rw [if_neg h1, if_neg h2, offerHeard_mk, offerHeard_mk, if_neg h2, if_neg h1]
    · rw [offerHeard_other hl, offerHeard_other fun h2 => hl (h.trans h2)]
      exact offerHeard_comm h

/-! ### Numbers through windows (R20, R21) -/

/-- The window that decodes a number is the first that owns it. -/
theorem decodeFrom_eq_some {base : Nat} {l : List NumWindow} {number index : Nat}
    (h : decodeFrom base l number = some index) :
    ∃ before w after, l = before ++ w :: after ∧ w.first ≤ number ∧ number < w.first + w.count ∧
      index = base + (before.map NumWindow.count).sum + (number - w.first) := by
  induction l generalizing base with
  | nil => cases h
  | cons w ws ih =>
    unfold decodeFrom at h
    split at h
    · next hin =>
      cases h
      exact ⟨[], w, ws, rfl, hin.1, hin.2, rfl⟩
    · obtain ⟨before, x, after, hl, hlo, hhi, hindex⟩ := ih h
      refine ⟨w :: before, x, after, by rw [hl]; rfl, hlo, hhi, ?_⟩
      rw [List.map_cons, List.sum_cons]
      omega

theorem decodeFrom_eq_none {base : Nat} {l : List NumWindow} {number : Nat} :
    decodeFrom base l number = none ↔ ∀ w ∈ l, ¬ (w.first ≤ number ∧ number < w.first + w.count) := by
  induction l generalizing base with
  | nil => simp [decodeFrom]
  | cons w ws ih =>
    unfold decodeFrom
    rw [List.forall_mem_cons]
    split
    · next hin => simp [hin]
    · next hout => rw [ih]; simp [hout]

/-- With windows apart, the window that owns a number is the one that decodes it. -/
theorem decodeFrom_of_owned {base : Nat} {before after : List NumWindow} {w : NumWindow} {number : Nat}
    (hapart : windowsApart (before ++ w :: after) = true) (hlo : w.first ≤ number) (hhi : number < w.first + w.count) :
    decodeFrom base (before ++ w :: after) number =
      some (base + (before.map NumWindow.count).sum + (number - w.first)) := by
  induction before generalizing base with
  | nil => rw [List.nil_append, decodeFrom, if_pos ⟨hlo, hhi⟩]; rfl
  | cons x before ih =>
    rw [List.cons_append, windowsApart, Bool.and_eq_true, List.all_eq_true] at hapart
    have hshare := hapart.1 w (List.mem_append_right _ List.mem_cons_self)
    simp only [windowsShare, Bool.not_eq_true', decide_eq_false_iff_not] at hshare
    rw [List.cons_append, decodeFrom, if_neg (by omega), ih hapart.2, List.map_cons, List.sum_cons]
    congr 1
    omega

/-- An index decoded stands for its number. -/
theorem numberFrom_decodeFrom {base : Nat} {l : List NumWindow} {number index : Nat}
    (h : decodeFrom base l number = some index) : numberFrom base l index = number := by
  have hbase : base ≤ index := by
    obtain ⟨_, _, _, _, _, _, hindex⟩ := decodeFrom_eq_some h
    omega
  induction l generalizing base with
  | nil => cases h
  | cons w ws ih =>
    unfold decodeFrom at h
    unfold numberFrom
    split at h
    · next hin =>
      cases h
      rw [if_pos (by omega)]
      omega
    · have hnext : base + w.count ≤ index := by
        obtain ⟨_, _, _, _, _, _, hindex⟩ := decodeFrom_eq_some h
        omega
      rw [if_neg (by omega), ih h hnext]

/-- Settles O50: the first window that owns the number decodes it, and windows apart leave no other. -/
theorem numbersDecodeThroughWindows : Obligations.NumbersDecodeThroughWindows := by
  intro s number index hapart
  refine ⟨⟨fun h => ?_, ?_⟩, decodeFrom_eq_none, numberFrom_decodeFrom⟩
  · obtain ⟨before, w, after, hl, hlo, hhi, hindex⟩ := decodeFrom_eq_some h
    exact ⟨before, w, after, hl, hlo, hhi, by rw [hindex, Nat.zero_add]⟩
  · rintro ⟨before, w, after, hl, hlo, hhi, rfl⟩
    rw [hl] at hapart
    rw [State.decode, hl, decodeFrom_of_owned hapart hlo hhi, Nat.zero_add]

end Sys2Proof.Machine
end

section
/-! The shaping of a deposit (R44 to R46) and the feed arbiter's choice (R107, R108). -/

namespace Sys2Proof.Machine

/-! ### Parts of 32 characters -/

theorem partCounts_length {fuel n : Nat} (h : n ≤ 32 * fuel) : (partCounts fuel n).length = (n + 31) / 32 := by
  induction fuel generalizing n with
  | zero =>
    rw [partCounts, List.length_nil]
    omega
  | succ fuel ih =>
    unfold partCounts
    split
    · rw [List.length_nil]
      omega
    · split
      · rw [List.length_singleton]
        omega
      · rw [List.length_cons, ih (by omega)]
        omega

theorem partCounts_sum {fuel n : Nat} (h : n ≤ 32 * fuel) : (partCounts fuel n).sum = n := by
  induction fuel generalizing n with
  | zero =>
    rw [partCounts, List.sum_nil]
    omega
  | succ fuel ih =>
    unfold partCounts
    split
    · next h0 => rw [List.sum_nil, h0]
    · split
      · rw [List.sum_singleton]
      · rw [List.sum_cons, ih (by omega)]
        omega

theorem partCounts_getElem? {fuel n i c : Nat} (h : n ≤ 32 * fuel) (hc : (partCounts fuel n)[i]? = some c) :
    c = min 32 (n - 32 * i) := by
  induction fuel generalizing n i with
  | zero => cases hc
  | succ fuel ih =>
    unfold partCounts at hc
    split at hc
    · cases hc
    · split at hc
      · cases i with
        | zero =>
          cases hc
          omega
        | succ i => cases hc
      · cases i with
        | zero =>
          cases hc
          omega
        | succ i =>
          rw [ih (by omega) hc]
          omega

/-! ### Shaping -/

/-- The deposit goes out as TONE (R44): it is one, it is empty, or the pager cannot show it. -/
def sentAsTone (pager : Kind) (l : Latched) : Prop := l.kind = .tone ∨ l.count = 0 ∨ shows pager l.kind = false

theorem shows_tone (pager : Kind) : shows pager .tone = true := by cases pager <;> rfl

theorem kindSent_of_tone {pager : Kind} {l : Latched} (h : sentAsTone pager l) :
    kindSent pager l.kind l.count =
      (.tone, decide (shows pager l.kind = false ∧ ¬ (l.kind ≠ .tone ∧ l.count = 0))) := by
  unfold kindSent
  by_cases hempty : l.kind ≠ .tone ∧ l.count = 0
  · rw [if_pos hempty, decide_eq_false fun hnot => hnot.2 hempty]
  · rw [if_neg hempty]
    by_cases hshows : shows pager l.kind = true
    · rw [if_pos hshows]
      have htone : l.kind = .tone := by
        rcases h with htone | hcount | hhidden
        · exact htone
        · exact Classical.byContradiction fun hkind => hempty ⟨hkind, hcount⟩
        · rw [hhidden] at hshows
          cases hshows
      rw [htone, shows_tone]
      rfl
    · rw [if_neg hshows, decide_eq_true ⟨Bool.eq_false_iff.2 hshows, hempty⟩]

theorem kindSent_of_shown {pager : Kind} {l : Latched} (h : ¬ sentAsTone pager l) :
    kindSent pager l.kind l.count = (l.kind, false) := by
  simp only [sentAsTone, not_or, Bool.not_eq_false] at h
  rw [kindSent, if_neg fun hempty => h.2.1 hempty.2, if_pos h.2.2]

theorem shapeFor_of_tone {pager : Kind} {l : Latched} (maxParts : Nat) (h : sentAsTone pager l) :
    shapeFor pager maxParts l =
      { kind := .tone,
        flags := ⟨decide (shows pager l.kind = false ∧ ¬ (l.kind ≠ .tone ∧ l.count = 0)), false, false⟩,
        chars := [], counts := [0] } := by
  rw [shapeFor, kindSent_of_tone h]

/-- The characters kept: the first of those sent, clamped, as far as the pager's parts reach. -/
def keptChars (maxParts : Nat) (l : Latched) : List Byte := (l.chars.map (clampChar l.kind)).take (maxParts * 32)

theorem length_keptChars (maxParts : Nat) (l : Latched) :
    (keptChars maxParts l).length = min (maxParts * 32) l.chars.length := by
  rw [keptChars, List.length_take, List.length_map]

theorem shapeFor_of_shown {pager : Kind} {l : Latched} (maxParts : Nat) (h : ¬ sentAsTone pager l)
    (hchars : l.chars.length ≤ 256) :
    shapeFor pager maxParts l =
      { kind := l.kind,
        flags := ⟨false, decide (l.chars.map (clampChar l.kind) ≠ l.chars),
          decide (256 < l.count ∨ (keptChars maxParts l).length < (l.chars.map (clampChar l.kind)).length)⟩,
        chars := keptChars maxParts l, counts := partCounts 8 (keptChars maxParts l).length } := by
  have hfirst : l.chars.take 256 = l.chars := List.take_of_length_le hchars
  rw [shapeFor, kindSent_of_shown h]
  cases hkind : l.kind with
  | tone => exact absurd (Or.inl hkind) h
  | numeric => simp only [hfirst, keptChars, hkind]
  | text => simp only [hfirst, keptChars, hkind]

theorem map_ne_self_iff (f : Byte → Byte) (l : List Byte) : l.map f ≠ l ↔ ∃ c ∈ l, f c ≠ c := by
  have hself : l.map f = l ↔ ∀ c ∈ l, f c = c := by
    rw [show (l.map f = l) = (l.map f = l.map id) by rw [List.map_id]]
    exact List.map_inj_left
  rw [ne_eq, hself]
  simp only [Classical.not_forall, ne_eq, exists_prop]

/-- Settles O45: a shown deposit keeps its first characters, and `partCounts` cuts them into 32s. -/
theorem shapingKeepsParts : Obligations.ShapingKeepsParts := by
  refine ⟨fun kind => ?_, fun c => ⟨?_, ?_⟩, fun pager maxParts l hpos hmax hchars => ?_⟩
  · cases kind <;> decide
  · simp only [clampChar, numericKeeps, decide_eq_true_eq, List.mem_cons, List.not_mem_nil, or_false]
  · simp only [clampChar, textKeeps, decide_eq_true_eq]
  · by_cases htone : sentAsTone pager l
    · rw [shapeFor_of_tone maxParts htone]
      refine ⟨fun _ => ⟨rfl, rfl, rfl, rfl, rfl⟩, fun hnot => absurd htone hnot, rfl, Nat.le_refl 1, hpos, ?_⟩
      exact decide_eq_true_iff
    · have hcount : l.count ≠ 0 := fun hc => htone (Or.inr (Or.inl hc))
      have hkept := length_keptChars maxParts l
      have hfits : (keptChars maxParts l).length ≤ 32 * 8 := by omega
      rw [shapeFor_of_shown maxParts htone (by omega)]
      dsimp only
      refine ⟨fun h => absurd h htone, fun _ => ⟨rfl, rfl, partCounts_length hfits,
        fun i c => partCounts_getElem? hfits,
        ?_, ?_⟩, partCounts_sum hfits, ?_, ?_, ?_⟩
      · rw [decide_eq_true_iff, map_ne_self_iff]
      · rw [decide_eq_true_iff, hkept, List.length_map]
        omega
      · rw [partCounts_length hfits]
        omega
      · rw [partCounts_length hfits]
        omega
      · exact ⟨fun h => (by cases h), fun h => absurd (Or.inr (Or.inr h.1)) htone⟩

/-! ### The arbiter's choice -/

/-- Feeds of a level are looked at. -/
theorem liveAt_iff (settings : PerFeed FeedSetting) (live : PerFeed Bool) (lv : Level) (f : Feed) :
    liveAt settings live lv f = true ↔ feedGet live f = true ∧ (feedGet settings f).level = lv := by simp [liveAt]

theorem mem_cycleFrom (holder : Option Feed) (f : Feed) : f ∈ cycleFrom holder := by
  cases holder with
  | none => cases f <;> simp [cycleFrom]
  | some h => cases h <;> cases f <;> simp [cycleFrom, feedNext]

theorem feedGet_feedPut_same {α : Type} (p : PerFeed α) (f : Feed) (v : α) : feedGet (feedPut p f v) f = v := by
  cases f <;> rfl

theorem feedGet_feedPut_other {α : Type} (p : PerFeed α) {f g : Feed} (v : α) (h : g ≠ f) :
    feedGet (feedPut p f v) g = feedGet p g := by
  revert h
  cases f <;> cases g <;> simp [feedGet, feedPut]

/-- A holder that is not live has its run set to 0, and every other run stays. -/
theorem feedGet_runAfterLoss (live : PerFeed Bool) (holder : Option Feed) (run : PerFeed Nat) (g : Feed) :
    feedGet (runAfterLoss live holder run) g =
      if holder = some g ∧ feedGet live g = false then 0 else feedGet run g := by
  unfold runAfterLoss
  cases holder with
  | none => simp
  | some h =>
    dsimp only
    by_cases hg : g = h
    · subst hg
      cases feedGet live g <;> simp [feedGet_feedPut_same]
    · have hne : ¬ (some h = some g) := fun k => hg (Option.some.inj k).symm
      rw [if_neg (c := some h = some g ∧ feedGet live g = false) fun k => hne k.1]
      split
      · rfl
      · exact feedGet_feedPut_other run 0 hg

/-- A level's holder keeps the grant. -/
def keepsGrant (settings : PerFeed FeedSetting) (live : PerFeed Bool) (lv : Level) (holder : Option Feed)
    (run : PerFeed Nat) : Prop :=
  ∃ x, holder = some x ∧ liveAt settings live lv x = true ∧ 0 < feedGet run x

theorem levelChoose_keeps {settings : PerFeed FeedSetting} {live : PerFeed Bool} {lv : Level} {x : Feed}
    {run : PerFeed Nat} (hlive : liveAt settings live lv x = true) (hrun : 0 < feedGet run x) :
    levelChoose settings live lv (some x) run = (some x, some x, runAfterLoss live (some x) run) := by
  have hx := ((liveAt_iff _ _ _ _).1 hlive).1
  have hkept : feedGet (runAfterLoss live (some x) run) x = feedGet run x := by
    rw [feedGet_runAfterLoss, if_neg fun h => by rw [hx] at h; cases h.2]
  simp [levelChoose, hlive, hkept, hrun]

theorem levelChoose_passes {settings : PerFeed FeedSetting} {live : PerFeed Bool} {lv : Level} {holder : Option Feed}
    {run : PerFeed Nat} (h : ¬ keepsGrant settings live lv holder run) {g : Feed}
    (hfind : (cycleFrom holder).find? (liveAt settings live lv) = some g) :
    levelChoose settings live lv holder run =
      (some g, some g, feedPut (runAfterLoss live holder run) g (feedGet settings g).run) := by
  cases holder with
  | none => simp only [levelChoose, hfind]
  | some x =>
    have hlost : ¬ (liveAt settings live lv x && decide (0 < feedGet (runAfterLoss live (some x) run) x)) = true := by
      intro hkeeps
      rw [Bool.and_eq_true, decide_eq_true_eq, feedGet_runAfterLoss] at hkeeps
      refine h ⟨x, rfl, hkeeps.1, ?_⟩
      have hrun := hkeeps.2
      split at hrun
      · cases hrun
      · exact hrun
    simp only [levelChoose, hfind, if_neg hlost]

theorem levelChoose_none {settings : PerFeed FeedSetting} {live : PerFeed Bool} {lv : Level} {holder : Option Feed}
    {run : PerFeed Nat} (h : ∀ f, liveAt settings live lv f = false) :
    levelChoose settings live lv holder run = (none, holder, runAfterLoss live holder run) := by
  have hfind : (cycleFrom holder).find? (liveAt settings live lv) = none :=
    List.find?_eq_none.2 fun f _ => by rw [h f]; exact Bool.false_ne_true
  cases holder with
  | none => simp only [levelChoose, hfind]
  | some x => simp only [levelChoose, hfind, h x, Bool.false_and, Bool.false_eq_true, if_false]

/-- What a level's grant of a feed is: the holder's own while it is live with run left, and else that of the first live
feed round the cycle, with a fresh run. -/
structure LevelGrant (settings : PerFeed FeedSetting) (live : PerFeed Bool) (lv : Level) (holder : Option Feed)
    (run : PerFeed Nat) (g : Feed) (run' : PerFeed Nat) : Prop where
  isLive : liveAt settings live lv g = true
  others : ∀ k, k ≠ g → feedGet run' k = feedGet (runAfterLoss live holder run) k
  keeps : keepsGrant settings live lv holder run → holder = some g ∧ feedGet run' g = feedGet run g
  passes : ¬ keepsGrant settings live lv holder run → feedGet run' g = (feedGet settings g).run ∧
    ∃ before after, cycleFrom holder = before ++ g :: after ∧ ∀ k ∈ before, ¬ liveAt settings live lv k = true

theorem levelChoose_cases (settings : PerFeed FeedSetting) (live : PerFeed Bool) (lv : Level) (holder : Option Feed)
    (run : PerFeed Nat) :
    ((∀ f, liveAt settings live lv f = false) ∧
      levelChoose settings live lv holder run = (none, holder, runAfterLoss live holder run)) ∨
    ∃ g run', levelChoose settings live lv holder run = (some g, some g, run') ∧
      LevelGrant settings live lv holder run g run' := by
  by_cases hkeeps : keepsGrant settings live lv holder run
  · obtain ⟨x, rfl, hlive, hrun⟩ := hkeeps
    have hx := ((liveAt_iff _ _ _ _).1 hlive).1
    refine .inr ⟨x, _, levelChoose_keeps hlive hrun, hlive, fun _ _ => rfl, fun _ => ⟨rfl, ?_⟩,
      fun hnot => absurd ⟨x, rfl, hlive, hrun⟩ hnot⟩
    rw [feedGet_runAfterLoss, if_neg fun h => by rw [hx] at h; cases h.2]
  · cases hfind : (cycleFrom holder).find? (liveAt settings live lv) with
    | none =>
      have hdead (f : Feed) : liveAt settings live lv f = false :=
        Bool.eq_false_iff.2 (List.find?_eq_none.1 hfind f (mem_cycleFrom holder f))
      exact .inl ⟨hdead, levelChoose_none hdead⟩
    | some g =>
      obtain ⟨hlive, before, after, hcycle, hbefore⟩ := List.find?_eq_some_iff_append.1 hfind
      refine .inr ⟨g, _, levelChoose_passes hkeeps hfind, hlive, fun k hk => feedGet_feedPut_other _ _ hk,
        fun h => absurd h hkeeps, fun _ => ⟨feedGet_feedPut_same _ _ _, before, after, hcycle, fun k hk => ?_⟩⟩
      simpa using hbefore k hk

/-- The three outcomes of the arbiter's choice: a HIGH grant, a LOW one with no HIGH feed live, or none. -/
inductive ArbiterOutcome (settings : PerFeed FeedSetting) (live : PerFeed Bool) (a : Arbiter) :
    Option Feed × Arbiter → Prop where
  | high {g : Feed} {run : PerFeed Nat} (grant : LevelGrant settings live .high a.high a.run g run) :
      ArbiterOutcome settings live a (some g, { a with high := some g, run := run })
  | low {g : Feed} {run : PerFeed Nat} (noHigh : ∀ f, liveAt settings live .high f = false)
      (grant : LevelGrant settings live .low a.low (runAfterLoss live a.high a.run) g run) :
      ArbiterOutcome settings live a (some g, { run := run, high := a.high, low := some g })
  | nothing (noHigh : ∀ f, liveAt settings live .high f = false) (noLow : ∀ f, liveAt settings live .low f = false) :
      ArbiterOutcome settings live a
        (none, { run := runAfterLoss live a.low (runAfterLoss live a.high a.run), high := a.high, low := a.low })

theorem arbiterOutcome (settings : PerFeed FeedSetting) (live : PerFeed Bool) (a : Arbiter) :
    ArbiterOutcome settings live a (arbiterChoose settings live a) := by
  rcases levelChoose_cases settings live .high a.high a.run with ⟨hnoHigh, heq⟩ | ⟨g, run, heq, hgrant⟩
  · rcases levelChoose_cases settings live .low a.low (runAfterLoss live a.high a.run) with
      ⟨hnoLow, heqLow⟩ | ⟨g, run, heqLow, hgrant⟩
    · simp only [arbiterChoose, heq, heqLow]
      exact .nothing hnoHigh hnoLow
    · simp only [arbiterChoose, heq, heqLow]
      exact .low hnoHigh hgrant
  · simp only [arbiterChoose, heq]
    exact .high hgrant

theorem Level.cases_of (lv : Level) : lv = .high ∨ lv = .low := by cases lv <;> simp

/-- No HIGH feed is live exactly when every live feed is LOW. -/
theorem noHigh_iff (settings : PerFeed FeedSetting) (live : PerFeed Bool) :
    (∀ f, liveAt settings live .high f = false) ↔ ∀ f, feedGet live f = true → (feedGet settings f).level = .low := by
  refine forall_congr' fun f => ?_
  rw [Bool.eq_false_iff, ne_eq, liveAt_iff]
  rcases Level.cases_of (feedGet settings f).level with h | h <;> simp [h]

theorem dead_of_noLevel {settings : PerFeed FeedSetting} {live : PerFeed Bool}
    (noHigh : ∀ f, liveAt settings live .high f = false) (noLow : ∀ f, liveAt settings live .low f = false) (f : Feed) :
    feedGet live f = false := by
  have hhigh := noHigh f
  have hlow := noLow f
  rw [Bool.eq_false_iff, ne_eq, liveAt_iff] at hhigh hlow
  rw [Bool.eq_false_iff]
  intro hlive
  rcases Level.cases_of (feedGet settings f).level with h | h
  · exact hhigh ⟨hlive, h⟩
  · exact hlow ⟨hlive, h⟩

theorem feedGet_runAfterLoss_live {live : PerFeed Bool} {f : Feed} (hlive : feedGet live f = true)
    (holder : Option Feed)
    (run : PerFeed Nat) : feedGet (runAfterLoss live holder run) f = feedGet run f := by
  rw [feedGet_runAfterLoss, if_neg fun h => by rw [hlive] at h; cases h.2]

/-- A live holder of the LOW level has lost no run at the HIGH one. -/
theorem keepsGrant_afterLoss (settings : PerFeed FeedSetting) (live : PerFeed Bool) (lv : Level)
    (holder lost : Option Feed) (run : PerFeed Nat) :
    keepsGrant settings live lv holder (runAfterLoss live lost run) ↔ keepsGrant settings live lv holder run := by
  refine exists_congr fun x => and_congr_right fun _ => and_congr_right fun hlive => ?_
  rw [feedGet_runAfterLoss_live ((liveAt_iff _ _ _ _).1 hlive).1]

theorem keepsGrant_iff (settings : PerFeed FeedSetting) (live : PerFeed Bool) (lv : Level) (holder : Option Feed)
    (run : PerFeed Nat) :
    keepsGrant settings live lv holder run ↔
      ∃ x, holder = some x ∧ feedGet live x = true ∧ (feedGet settings x).level = lv ∧ 0 < feedGet run x := by
  simp only [keepsGrant, liveAt_iff, and_assoc]

/-- Settles O25: each of the arbiter's three outcomes, read off the grant it makes. -/
theorem arbiterKeepsLevelsAndRuns : Obligations.ArbiterKeepsLevelsAndRuns := by
  intro settings live a
  have hlooked := noHigh_iff settings live
  generalize harb : arbiterChoose settings live a = r
  have hout := arbiterOutcome settings live a
  rw [harb] at hout
  cases hout with
  | @high g run grant =>
    obtain ⟨hg, hlevel⟩ := (liveAt_iff _ _ _ _).1 grant.isLive
    have hnot : ¬ ∀ f, feedGet live f = true → (feedGet settings f).level = .low := fun h => by
      rw [h g hg] at hlevel
      cases hlevel
    refine ⟨⟨nofun, fun h => by rw [h g] at hg; cases hg⟩, nofun, fun k hk => ?_, ?_⟩
    · have hother := grant.others k fun h => hk (by rw [h])
      dsimp only
      rw [hother, feedGet_runAfterLoss]
      refine ⟨fun hlost => if_pos ?_, fun hkept => if_neg ?_⟩
      · rcases hlost.2 with h | h
        · exact ⟨h, hlost.1⟩
        · exact absurd h.1 hnot
      · exact fun h => hkept ⟨h.2, .inl h.1⟩
    · rintro f a' ⟨⟩
      refine ⟨hg, fun h => ?_, fun _ => ⟨rfl, rfl⟩, fun h => ?_, ?_⟩
      · rw [hlevel] at h
        cases h
      · rw [hlevel] at h
        cases h
      · dsimp only
        rw [hlevel, if_pos rfl, ← keepsGrant_iff settings live .high]
        simp only [← liveAt_iff]
        exact ⟨grant.keeps, grant.passes⟩
  | @low g run noHigh grant =>
    obtain ⟨hg, hlevel⟩ := (liveAt_iff _ _ _ _).1 grant.isLive
    refine ⟨⟨nofun, fun h => by rw [h g] at hg; cases hg⟩, nofun, fun k hk => ?_, ?_⟩
    · have hother := grant.others k fun h => hk (by rw [h])
      dsimp only
      rw [hother, feedGet_runAfterLoss, feedGet_runAfterLoss]
      refine ⟨fun hlost => ?_, fun hkept => ?_⟩
      · rcases hlost.2 with h | h
        · simp [h, hlost.1]
        · simp [h.2, hlost.1]
      · rw [if_neg fun h => hkept ⟨h.2, .inr ⟨hlooked.1 noHigh, h.1⟩⟩, if_neg fun h => hkept ⟨h.2, .inl h.1⟩]
    · rintro f a' ⟨⟩
      refine ⟨hg, fun _ => hlooked.1 noHigh, fun h => ?_, fun _ => ⟨rfl, rfl⟩, ?_⟩
      · rw [hlevel] at h
        cases h
      · have hkeeps := grant.keeps
        have hpasses := grant.passes
        rw [keepsGrant_afterLoss, feedGet_runAfterLoss_live hg] at hkeeps
        rw [keepsGrant_afterLoss] at hpasses
        dsimp only
        rw [hlevel, if_neg (by decide), ← keepsGrant_iff settings live .low]
        simp only [← liveAt_iff]
        exact ⟨hkeeps, hpasses⟩
  | nothing noHigh noLow =>
    have hdead := dead_of_noLevel noHigh noLow
    refine ⟨⟨fun _ => hdead, fun _ => rfl⟩, fun _ => ⟨rfl, rfl⟩, fun k _ => ?_, nofun⟩
    dsimp only
    rw [feedGet_runAfterLoss, feedGet_runAfterLoss]
    refine ⟨fun hlost => ?_, fun hkept => ?_⟩
    · rcases hlost.2 with h | h
      · simp [h, hlost.1]
      · simp [h.2, hlost.1]
    · rw [if_neg fun h => hkept ⟨h.2, .inr ⟨hlooked.1 noHigh, h.1⟩⟩, if_neg fun h => hkept ⟨h.2, .inl h.1⟩]

end Sys2Proof.Machine
end

section
/-! The walk of a composition (R104 to R109): the table's verdict on a message, the step that carries it out, and the
end. -/

namespace Sys2Proof.Machine

/-! ### Cursors and live feeds -/

theorem feedGet_liveFeeds (c : PerFeed (Option Nat)) (f : Feed) : feedGet (liveFeeds c) f = (feedGet c f).isSome := by
  cases f <;> rfl

/-- The arbiter finds no feed exactly when every cursor is END. -/
theorem arbiterChoose_none_iff (settings : PerFeed FeedSetting) (c : PerFeed (Option Nat)) (a : Arbiter) :
    (arbiterChoose settings (liveFeeds c) a).1 = none ↔ ∀ f, feedGet c f = none := by
  rw [(arbiterKeepsLevelsAndRuns settings (liveFeeds c) a).1]
  simp only [feedGet_liveFeeds, Option.isSome_eq_false_iff, Option.isNone_iff_eq_none]

theorem State.walkFeed_stays {s : State} {c : Composition} {f : Feed} (hc : c.chosen = some f)
    (hlive : feedGet s.store.cursors f ≠ none) : s.walkFeed c = (some f, s.claims.arbiter) := by
  simp only [State.walkFeed, hc, if_pos (Option.isSome_iff_ne_none.2 hlive)]

theorem State.walkFeed_anew {s : State} {c : Composition}
    (hend : ∀ f, c.chosen = some f → feedGet s.store.cursors f = none) :
    s.walkFeed c = arbiterChoose s.unit.setup.feeds (liveFeeds s.store.cursors) s.claims.arbiter := by
  unfold State.walkFeed
  split
  · next f hf => simp [hend f hf]
  · rfl

theorem State.walkFeed_none {s : State} {c : Composition} (hend : ∀ f, feedGet s.store.cursors f = none) :
    (s.walkFeed c).1 = none := by
  rw [State.walkFeed_anew fun f _ => hend f]
  exact (arbiterChoose_none_iff _ _ _).2 hend

/-! ### The table's verdict -/

/-- A first send that asks for a reservation (R105). -/
def State.firstSend (s : State) (m : Msg) : Bool := (s.sub m.subIndex).twoWay && decide (m.sends = 0)

/-- The item that a message's taking makes. -/
def State.itemFor (s : State) (w : WindowRec) (slot : Nat) (m : Msg) : Item :=
  { slot := slot, parts := partsIncluded m, zones := zonesOf s.unit.setup (s.sub m.subIndex) m w, cost := sendCost m,
    first := s.firstSend m }

/-- The rows of R104's table in their order. -/
theorem State.judge_eq (s : State) (c : Composition) (w : WindowRec) (f : Feed) (slot : Nat) (m : Msg) :
    s.judge c w f slot m =
      if claimable m = false ∨ m.link.isSome = true then .pass
      else if (m.subIndex, f) ∈ s.claims.blocked then .pass
      else if s.unit.setup.lifetime * 75 ≤ (w.serial - m.accepted).toNat then .expire
      else if notDue m w.serial then .pass
      else if s.firstSend m = true ∧ s.keyHeld (s.sub m.subIndex).airTag m.seq = true then .clash
      else if s.firstSend m = true ∧ 1024 ≤ s.tracker.entries.length + s.tracker.reservations.length then .full
      else if zonesOf s.unit.setup (s.sub m.subIndex) m w = 0 then .block
      else if fits s.claims.fill c.tally w.plan.caps (zonesOf s.unit.setup (s.sub m.subIndex) m w) (sendCost m) = false
        then .block
      else .take (s.itemFor w slot m) := by
  have hclaim : (!claimable m || m.link.isSome) = decide (claimable m = false ∨ m.link.isSome = true) := by
    cases claimable m <;> simp
  have hpast : pastLifetime s.unit.setup m w.serial =
      decide (s.unit.setup.lifetime * 75 ≤ (w.serial - m.accepted).toNat) := rfl
  have hfit (first : Bool) : s.judgeFit c w slot m first =
      if zonesOf s.unit.setup (s.sub m.subIndex) m w = 0 then .block
      else if fits s.claims.fill c.tally w.plan.caps (zonesOf s.unit.setup (s.sub m.subIndex) m w) (sendCost m) = false
        then .block
      else .take { s.itemFor w slot m with first := first } := by
    unfold State.judgeFit
    dsimp only
    cases fits s.claims.fill c.tally w.plan.caps (zonesOf s.unit.setup (s.sub m.subIndex) m w) (sendCost m) <;> rfl
  have hcap (n : Nat) : (n < Config.outstandingCap) ↔ ¬ 1024 ≤ n := Nat.not_le.symm
  unfold State.judge
  dsimp only
  rw [hclaim, hpast, hfit, hfit]
  simp only [decide_eq_true_eq]
  refine ite_congr rfl (fun _ => rfl) fun _ => ite_congr rfl (fun _ => rfl) fun _ => ite_congr rfl (fun _ => rfl)
    fun _ => ite_congr rfl (fun _ => rfl) fun _ => ?_
  unfold State.itemFor State.firstSend
  cases (s.sub m.subIndex).twoWay && decide (m.sends = 0)
  · simp
  · simp only [if_true, true_and]
    refine ite_congr rfl (fun _ => rfl) fun _ => ?_
    exact (ite_congr (propext (hcap _)) (fun _ => rfl) fun _ => rfl).trans (ite_not ..)

/-- An item taken fits, in zones in service. -/
theorem State.judge_take {s : State} {c : Composition} {w : WindowRec} {f : Feed} {slot : Nat} {m : Msg} {i : Item}
    (h : s.judge c w f slot m = .take i) :
    i = s.itemFor w slot m ∧ i.zones ≠ 0 ∧ fits s.claims.fill c.tally w.plan.caps i.zones i.cost = true := by
  rw [State.judge_eq] at h
  iterate 6
    split at h
    · cases h
  split at h
  · cases h
  · next hzones =>
    split at h
    · cases h
    · next hfits =>
      injection h with h
      subst h
      exact ⟨rfl, hzones, eq_true_of_ne_false hfits⟩

theorem fits_iff (fill tally caps : List Nat) (zones : ZoneSet) (cost : Nat) :
    fits fill tally caps zones cost = true ↔
      ∀ z < 16, hasZone zones z = true → zoneAt fill z + zoneAt tally z + cost ≤ zoneAt caps z := by
  simp only [fits, List.all_eq_true, List.mem_range, Bool.or_eq_true, Bool.not_eq_true', decide_eq_true_eq]
  refine forall₂_congr fun z _ => ?_
  cases hasZone zones z <;> simp

/-! ### One step -/

/-- The walk goes on with the work as it was, whatever feed it stays with. -/
theorem State.stayWith_slot (s : State) (c : Composition) (f : Feed) :
    ∃ chosen, (s.stayWith c f).claims.slot = .composing { c with chosen := chosen } := by
  unfold State.stayWith
  split
  · exact ⟨_, rfl⟩
  · exact ⟨_, rfl⟩

/-- The step of a composition short of 16 items on the message at the cursor of the feed the walk comes to. -/
theorem State.composeStep_message {s : State} {c : Composition} {w : WindowRec} {f : Feed} {a : Arbiter} {slot : Nat}
    (hslot : s.claims.slot = .composing c) (hopen : s.claims.openWin = some w) (hlen : c.items.length < 16)
    (hfeed : s.walkFeed c = (some f, a)) (hcursor : feedGet s.store.cursors f = some slot) :
    s.composeStep =
      let v := (s.withClaims { s.claims with arbiter := a }).giveNext w.air.window f slot
      (match s.msg slot with
      | some m => v.treatMessage c w f slot m
      | none => v.stayWith c f).noteReads (s.readsOf slot) := by
  have hcap : ¬ Config.claimCap ≤ c.items.length := Nat.not_le.2 hlen
  unfold State.composeStep
  simp only [hslot, hopen, if_neg hcap, hfeed, hcursor]
  rfl

/-- A step stands still or comes to a message. -/
theorem State.composeStep_or {s : State} {c : Composition} {w : WindowRec} (hslot : s.claims.slot = .composing c)
    (hopen : s.claims.openWin = some w) :
    s.composeStep = s ∨ ∃ f a slot, c.items.length < 16 ∧ s.walkFeed c = (some f, a) ∧
      feedGet s.store.cursors f = some slot := by
  unfold State.composeStep
  simp only [hslot, hopen]
  split
  · exact .inl rfl
  · next hcap =>
    split
    · next f a hfeed =>
      split
      · next slot hcursor => exact .inr ⟨f, a, slot, Nat.not_le.1 hcap, hfeed, hcursor⟩
      · exact .inl rfl
    · exact .inl rfl

theorem State.composeStep_idle {s : State} {c : Composition} (hslot : s.claims.slot = .composing c)
    (h : 16 ≤ c.items.length ∨ ∀ f, feedGet s.store.cursors f = none) : s.composeStep = s := by
  unfold State.composeStep
  split
  · next c' w hc' _ =>
    cases hslot.symm.trans hc'
    rcases h with hfull | hend
    · exact if_pos hfull
    · split
      · rfl
      · split
        · next hfeed =>
          have hnone := State.walkFeed_none (c := c) hend
          rw [hfeed] at hnone
          cases hnone
        · rfl
  · rfl

/-- What the step leaves of the work: the items as they were, or one more that fits. -/
theorem State.composeStep_items {s : State} {c : Composition} {w : WindowRec} (hslot : s.claims.slot = .composing c)
    (hopen : s.claims.openWin = some w) :
    ∃ c', s.composeStep.claims.slot = .composing c' ∧ (c'.items = c.items ∨
      ∃ i : Item, c'.items = c.items ++ [i] ∧ i.zones ≠ 0 ∧ i.zones &&& w.plan.zones = i.zones ∧
        fits s.claims.fill c.tally w.plan.caps i.zones i.cost = true) := by
  have hsame : (∃ c', s.claims.slot = .composing c' ∧ (c'.items = c.items ∨
      ∃ i : Item, c'.items = c.items ++ [i] ∧ i.zones ≠ 0 ∧ i.zones &&& w.plan.zones = i.zones ∧
        fits s.claims.fill c.tally w.plan.caps i.zones i.cost = true)) := ⟨c, hslot, .inl rfl⟩
  rcases State.composeStep_or hslot hopen with hidle | ⟨f, a, slot, hlen, hfeed, hcursor⟩
  · rwa [hidle]
  · rw [State.composeStep_message hslot hopen hlen hfeed hcursor]
    dsimp only
    rw [State.noteReads_claims]
    have hstay (v : State) : ∃ c', (v.stayWith c f).claims.slot = .composing c' ∧ (c'.items = c.items ∨
        ∃ i : Item, c'.items = c.items ++ [i] ∧ i.zones ≠ 0 ∧ i.zones &&& w.plan.zones = i.zones ∧
          fits s.claims.fill c.tally w.plan.caps i.zones i.cost = true) := by
      obtain ⟨chosen, heq⟩ := v.stayWith_slot c f
      exact ⟨_, heq, .inl rfl⟩
    split
    · unfold State.treatMessage
      split
      · exact hstay _
      · exact hstay _
      · exact hstay _
      · exact hstay _
      · exact hstay _
      · next i hjudge =>
        obtain ⟨hitem, hzones, hfits⟩ := State.judge_take hjudge
        refine ⟨_, rfl, .inr ⟨i, rfl, hzones, ?_, hfits⟩⟩
        rw [hitem]
        exact (BitVec.and_assoc _ _ _).trans (by rw [BitVec.and_self]; rfl)
    · exact hstay _

/-- R103 leaves a composition in flight alone. -/
theorem State.testStart_composing {s : State} {c : Composition} (h : s.claims.slot = .composing c) :
    s.testStart.claims.slot = .composing c := by
  unfold State.testStart
  split
  · dsimp only
    split
    · rw [if_neg]
      · exact h
      · simp [State.mayCompose, h]
    · exact h
  · exact h

theorem exec_compositionStep (e : Env) (s : State) :
    exec (.compositionStep e) s =
      .next (if s.serving && s.composing then ((s.advance e.moment).composeStep).testStart else s) := rfl

/-- Settles O26: a step keeps the items or takes one that fits, and R103 leaves the composition alone. -/
theorem takenItemFits : Obligations.TakenItemFits := by
  intro e s t c c' w hexec hslot hopen hc'
  rw [exec_compositionStep] at hexec
  injection hexec with hexec
  subst hexec
  split at hc'
  · obtain ⟨c1, hc1, hitems⟩ := State.composeStep_items (s := s.advance e.moment) hslot hopen
    rw [State.testStart_composing hc1] at hc'
    injection hc' with hc'
    subst hc'
    refine hitems.imp_right ?_
    rintro ⟨i, hi, hne, hzones, hfits⟩
    exact ⟨i, hi, hne, hzones, (fits_iff _ _ _ _ _).1 hfits⟩
  · rw [hslot] at hc'
    injection hc' with hc'
    exact .inl (by rw [hc'])

/-! ### The step spelled out -/

/-- The one after `x` is the head of what follows it. -/
theorem nextIn_append (x : Nat) (before after : List Nat) (h : x ∉ before) :
    nextIn x (before ++ x :: after) = after.head? := by
  induction before with
  | nil => rw [List.nil_append, nextIn, if_pos rfl]
  | cons y before ih =>
    rw [List.mem_cons, not_or] at h
    rw [List.cons_append, nextIn, if_neg fun hy => h.1 hy.symm, ih h.2]

theorem claimable_iff (m : Msg) : claimable m = true ↔ m.state = .queued ∨ ∃ nb, m.state = .resting nb := by
  unfold claimable
  cases m.state <;> simp

theorem notDue_iff (m : Msg) (n : Serial) :
    notDue m n = true ↔ ∃ nb, m.state = .resting nb ∧ 0 < (nb - n).toNat ∧ (nb - n).toNat < 2147483648 := by
  unfold notDue
  cases m.state with
  | resting nb =>
    simp only [MsgState.resting.injEq, exists_eq_left']
    exact decide_eq_true_iff
  | _ => simp

theorem State.keyHeld_iff (s : State) (tag seq : Nat) : s.keyHeld tag seq = true ↔
    (∃ x ∈ s.tracker.entries, x.tag = tag ∧ x.seq = seq) ∨ ∃ x ∈ s.tracker.reservations, x.tag = tag ∧ x.seq = seq := by
  simp [State.keyHeld]

/-- The zones a send asks for (R97). -/
theorem zonesWanted_eq (k : Setup) (r : Subscriber) (m : Msg) (n : Serial) :
    zonesWanted k r m n = match r.lastHeard with
      | some l =>
        if r.twoWay = true ∧ (n - l.serial).toNat ≤ k.freshSpan * 75 ∧ m.sends + 1 ≤ 2 then
          k.neighbours.getD l.zone 0
        else 0xFFFF
      | none => 0xFFFF := by
  unfold zonesWanted
  cases r.twoWay <;> cases r.lastHeard <;> simp [serialDist, allZones]

theorem addCost_eq (l : List Nat) (zones : ZoneSet) (cost : Nat) :
    addCost l zones cost = (List.range 16).map fun z => zoneAt l z + if hasZone zones z then cost else 0 := by
  have hzone (z : Nat) : (if hasZone zones z then zoneAt l z + cost else zoneAt l z) =
      zoneAt l z + if hasZone zones z then cost else 0 := by
    split <;> rfl
  unfold addCost
  simp only [hzone]
  rfl

/-- What a verdict of R104's table does. -/
def State.actOn (v : State) (c : Composition) (w : WindowRec) (f : Feed) (slot : Nat) (m : Msg) : Verdict → State
  | .pass => v.stayWith c f
  | .expire => (v.finish slot .expired).stayWith c f
  | .block => (v.blockSub m.subIndex f).stayWith c f
  | .clash => ((v.blockSub m.subIndex f).bump .tagClashes).stayWith c f
  | .full => ((v.blockSub m.subIndex f).latch .outstandingFull).stayWith c f
  | .take i => v.takeItem c w f m i

/-- A step on a message carries out the table's verdict on it. -/
theorem State.treatMessage_eq (v : State) (c : Composition) (w : WindowRec) (f : Feed) (slot : Nat) (m : Msg) :
    v.treatMessage c w f slot m =
      if claimable m = false ∨ m.link.isSome = true then v.stayWith c f
      else if (m.subIndex, f) ∈ v.claims.blocked then v.stayWith c f
      else if v.unit.setup.lifetime * 75 ≤ (w.serial - m.accepted).toNat then (v.finish slot .expired).stayWith c f
      else if notDue m w.serial then v.stayWith c f
      else if v.firstSend m = true ∧ v.keyHeld (v.sub m.subIndex).airTag m.seq = true then
        ((v.blockSub m.subIndex f).bump .tagClashes).stayWith c f
      else if v.firstSend m = true ∧ 1024 ≤ v.tracker.entries.length + v.tracker.reservations.length then
        ((v.blockSub m.subIndex f).latch .outstandingFull).stayWith c f
      else if zonesOf v.unit.setup (v.sub m.subIndex) m w = 0 then (v.blockSub m.subIndex f).stayWith c f
      else if fits v.claims.fill c.tally w.plan.caps (zonesOf v.unit.setup (v.sub m.subIndex) m w) (sendCost m) = false
        then (v.blockSub m.subIndex f).stayWith c f
      else v.takeItem c w f m (v.itemFor w slot m) := by
  have hact : v.treatMessage c w f slot m = v.actOn c w f slot m (v.judge c w f slot m) := rfl
  rw [hact, State.judge_eq]
  simp only [apply_ite (v.actOn c w f slot m)]
  rfl

/-- The taking of an item, as the writes it makes. -/
theorem State.takeItem_eq (v : State) (c : Composition) (w : WindowRec) (f : Feed) (m : Msg) (i : Item) :
    v.takeItem c w f m i =
      { v.putMsg i.slot { m with link := some ⟨w.serial, w.sent, c.items.length⟩ } with
        tracker := if i.first then
            { v.tracker with
              reservations := v.tracker.reservations ++ [⟨(v.sub m.subIndex).airTag, m.seq, i.slot⟩] }
          else v.tracker,
        claims := { v.claims with
          arbiter := arbiterCount v.claims.arbiter f,
          slot := .composing { c with
            items := c.items ++ [i], tally := addCost c.tally i.zones i.cost, chosen := none } } } := by
  unfold State.takeItem State.reserve
  generalize hput : v.putMsg i.slot { m with link := some ⟨w.serial, w.sent, c.items.length⟩ } = u
  have hkept : KeptBut [.store, .faults, .stats, .parity] v u := by rw [← hput]; simp
  have htracker : u.tracker = v.tracker := hkept .tracker (by simp)
  have hclaims : u.claims = v.claims := hkept .claims (by simp)
  have hsub : u.sub m.subIndex = v.sub m.subIndex := State.sub_congr (hkept .subs (by simp)) _
  cases i.first
  · simp only [Bool.false_eq_true, if_false, hclaims, ← htracker]
    rfl
  · simp only [if_true, hsub, htracker]
    rw [← hclaims]
    rfl

theorem State.readsOf_some {s : State} {slot : Nat} {m : Msg} (h : s.msg slot = some m) :
    s.readsOf slot = [.message slot, .subscriber m.subIndex] := by simp only [State.readsOf, h]

theorem State.readsOf_none {s : State} {slot : Nat} (h : s.msg slot = none) : s.readsOf slot = [.message slot] := by
  simp only [State.readsOf, h]

theorem State.serving_of {s : State} (hservice : s.unit.engine = .service) (hreset : s.unit.resetLow = false) :
    s.serving = true := s.serving_iff.2 ⟨hservice, hreset⟩

theorem exec_compositionStep_composing {s : State} {c : Composition} (e : Env) (hservice : s.unit.engine = .service)
    (hreset : s.unit.resetLow = false) (hslot : s.claims.slot = .composing c) :
    exec (.compositionStep e) s = .next ((s.advance e.moment).composeStep).testStart := by
  rw [exec_compositionStep, State.serving_of hservice hreset]
  simp [State.composing, hslot]

/-- Settles O24: the walk's next message, and the row of the table that deals with it. -/
theorem compositionStepDealsWithMessage : Obligations.CompositionStepDealsWithMessage := by
  refine ⟨fun s c => ⟨fun f => State.walkFeed_stays, State.walkFeed_anew, fun f => ⟨fun hlive => ?_, fun hend => ?_⟩⟩,
    nextIn_append, fits_iff, fun m => ⟨claimable_iff m, notDue_iff m⟩, State.keyHeld_iff, ?_, ?_⟩
  · exact if_pos (Option.isSome_iff_ne_none.2 hlive)
  · have hend' : feedGet s.store.cursors f = none := hend
    exact if_neg (by rw [hend']; exact Bool.false_ne_true)
  · intro e s c w hservice hreset hslot hopen
    refine ⟨fun hidle => ?_, fun f a slot hlen hfeed hcursor hmsg => ?_⟩
    · rw [exec_compositionStep_composing e hservice hreset hslot,
        State.composeStep_idle (s := s.advance e.moment) hslot hidle]
    · rw [exec_compositionStep_composing e hservice hreset hslot,
        State.composeStep_message (s := s.advance e.moment) hslot hopen hlen hfeed hcursor,
        State.readsOf_none (s := s.advance e.moment) hmsg]
      dsimp only
      rw [show (s.advance e.moment).msg slot = none from hmsg]
      rfl
  · intro e s c w f a slot m hservice hreset hslot hopen hlen hfeed hcursor hmsg
    rw [exec_compositionStep_composing e hservice hreset hslot,
      State.composeStep_message (s := s.advance e.moment) hslot hopen hlen hfeed hcursor,
      State.readsOf_some (s := s.advance e.moment) hmsg]
    dsimp only
    rw [show (s.advance e.moment).msg slot = some m from hmsg]
    dsimp only
    rw [State.treatMessage_eq, State.takeItem_eq]
    simp only [State.itemFor, zonesOf, zonesWanted_eq, addCost_eq]
    rfl

/-! ### The end -/

theorem exec_compositionEnd_composing {s : State} {c : Composition} (e : Env) (hservice : s.unit.engine = .service)
    (hreset : s.unit.resetLow = false) (hslot : s.claims.slot = .composing c) :
    exec (.compositionEnd e) s = .next (s.advance e.moment).composeEnd := by
  show Host.Outcome.next (if s.serving && s.composing then (s.advance e.moment).composeEnd else s) = _
  rw [State.serving_of hservice hreset]
  simp [State.composing, hslot]

/-- With no feed live the arbiter keeps its holders and takes their runs. -/
theorem arbiterChoose_dead (settings : PerFeed FeedSetting) {c : PerFeed (Option Nat)} (a : Arbiter)
    (hend : ∀ f, feedGet c f = none) :
    arbiterChoose settings (liveFeeds c) a = (none, { a with
      run := runAfterLoss (liveFeeds c) a.low (runAfterLoss (liveFeeds c) a.high a.run) }) := by
  have hnone := (arbiterChoose_none_iff settings c a).2 hend
  have hout := arbiterOutcome settings (liveFeeds c) a
  generalize arbiterChoose settings (liveFeeds c) a = r at hout hnone
  cases hout with
  | high _ => cases hnone
  | low _ _ => cases hnone
  | nothing _ _ => rfl

theorem PerFeed.eq_of_feedGet {α : Type} {p q : PerFeed α} (h : ∀ f, feedGet p f = feedGet q f) : p = q := by
  obtain ⟨u, r, o⟩ := p
  obtain ⟨u', r', o'⟩ := q
  have hu : u = u' := h .urgent
  have hr : r = r' := h .retry
  have ho : o = o' := h .routine
  rw [hu, hr, ho]

theorem State.composeEnd_full {s : State} {c : Composition} (hslot : s.claims.slot = .composing c)
    (hfull : 16 ≤ c.items.length) : s.composeEnd = s.withClaims { s.claims with slot := .prepared c } := by
  unfold State.composeEnd
  simp only [hslot]
  exact if_pos hfull

theorem State.composeEnd_live {s : State} {c : Composition} (hslot : s.claims.slot = .composing c)
    (hlen : c.items.length < 16) (hlive : ¬ ∀ f, feedGet s.store.cursors f = none) : s.composeEnd = s := by
  have hcap : ¬ Config.claimCap ≤ c.items.length := Nat.not_le.2 hlen
  rw [← arbiterChoose_none_iff s.unit.setup.feeds s.store.cursors s.claims.arbiter] at hlive
  unfold State.composeEnd
  simp only [hslot, if_neg hcap]
  split
  · next harb => rw [harb] at hlive; exact absurd rfl hlive
  · rfl

theorem State.composeEnd_dead {s : State} {c : Composition} (hslot : s.claims.slot = .composing c)
    (hlen : c.items.length < 16) (hend : ∀ f, feedGet s.store.cursors f = none) :
    s.composeEnd = s.withClaims { s.claims with
      arbiter := { s.claims.arbiter with
        run := runAfterLoss (liveFeeds s.store.cursors) s.claims.arbiter.low
          (runAfterLoss (liveFeeds s.store.cursors) s.claims.arbiter.high s.claims.arbiter.run) },
      slot := if c.items = [] then .waiting else .prepared c } := by
  have hcap : ¬ Config.claimCap ≤ c.items.length := Nat.not_le.2 hlen
  unfold State.composeEnd
  simp only [hslot, if_neg hcap, arbiterChoose_dead _ _ hend, List.isEmpty_iff]

/-- Settles O27: the end is judged by the cursors as they stand. -/
theorem compositionEndPrepares : Obligations.CompositionEndPrepares := by
  intro e s c hservice hreset hslot u run
  rw [exec_compositionEnd_composing e hservice hreset hslot]
  have hslot' : u.claims.slot = .composing c := hslot
  refine ⟨fun hfull => ?_, fun hlen hend => ?_, fun hlen ⟨f, slot, hcursor⟩ => ?_⟩
  · rw [State.composeEnd_full hslot' hfull]
    rfl
  · have hrun : runAfterLoss (liveFeeds s.store.cursors) s.claims.arbiter.low
        (runAfterLoss (liveFeeds s.store.cursors) s.claims.arbiter.high s.claims.arbiter.run) =
          ⟨run .urgent, run .retry, run .routine⟩ := by
      refine PerFeed.eq_of_feedGet fun f => ?_
      have hrunf : feedGet (⟨run .urgent, run .retry, run .routine⟩ : PerFeed Nat) f = run f := by cases f <;> rfl
      rw [hrunf, feedGet_runAfterLoss, feedGet_runAfterLoss, feedGet_liveFeeds, hend f]
      simp only [run, Option.isSome_none, and_true]
      by_cases hhigh : s.claims.arbiter.high = some f <;> by_cases hlow : s.claims.arbiter.low = some f <;>
        simp [hhigh, hlow]
    rw [State.composeEnd_dead hslot' hlen hend, ← hrun]
    rfl
  · rw [State.composeEnd_live hslot' hlen fun hend => by
      have hnone : feedGet s.store.cursors f = none := hend f
      rw [hcursor] at hnone
      cases hnone]

end Sys2Proof.Machine
end

section
/-! Start, restart and faults: the setup sweep, the RECOVERY sweep (R176 to R179), the FAULT line and bad bytes (R180 to
R182), and the joining and leaving of due lists that the sweep makes (R69, R70). -/

namespace Sys2Proof.Machine

/-! ### Due lists (R69, R70) -/

@[simp] theorem State.putMsg_store (s : State) (slot : Nat) (m : Msg) :
    (s.putMsg slot m).store = { s.store with msgs := tablePut s.store.msgs slot m } := by
  simp [State.putMsg]

@[simp] theorem State.sub_putMsg (s : State) (slot : Nat) (m : Msg) (i : Nat) : (s.putMsg slot m).sub i = s.sub i :=
  State.sub_congr ((by simp : KeptBut [.store, .faults, .stats, .parity] s (s.putMsg slot m)) .subs (by simp)) i

@[simp] theorem State.wakeAt_store (s : State) (w : Nat) : (s.wakeAt w).store = s.store :=
  (by simp : KeptBut [.claims] s (s.wakeAt w)) .store (by simp)

/-- The store after a join (R69, R71). -/
theorem State.joinDue_store {s : State} {slot : Nat} {m : Msg} (f : Feed) (hm : s.msg slot = some m) :
    (s.joinDue slot f).store =
      let w := (s.sub m.subIndex).homeWindow
      { s.store with
        due := tableSet s.store.due [] (dueKey w f) (s.dueList (dueKey w f) ++ [slot])
        msgs := tablePut s.store.msgs slot { m with feed := some f }
        cursors := if s.walks w && (feedGet s.store.cursors f).isNone then feedPut s.store.cursors f (some slot)
          else s.store.cursors } := by
  unfold State.joinDue
  rw [hm]
  dsimp only
  rw [State.wakeAt_store]
  split <;> simp [State.putCursor]

/-- A message on no list leaves none. -/
theorem State.leaveDue_none {s : State} {slot : Nat} {m : Msg} (hm : s.msg slot = some m) (hfeed : m.feed = none) :
    s.leaveDue slot = s := by
  unfold State.leaveDue
  rw [hm]
  dsimp only
  rw [hfeed]

/-- The message that has joined a list. -/
theorem State.msg_joinDue_same {s : State} {slot : Nat} {m : Msg} (f : Feed) (hm : s.msg slot = some m) :
    (s.joinDue slot f).msg slot = some { m with feed := some f } := by
  rw [State.msg, State.joinDue_store f hm]
  exact tableFind_put_same _ _ _

/-- A join writes no other message. -/
theorem State.msg_joinDue_other {s : State} {slot k : Nat} {m : Msg} (f : Feed) (hm : s.msg slot = some m)
    (hk : k ≠ slot) : (s.joinDue slot f).msg k = s.msg k := by
  rw [State.msg, State.joinDue_store f hm]
  exact tableFind_put_other _ _ hk

/-- The list joined has the message at its tail. -/
theorem State.dueList_joinDue_same {s : State} {slot : Nat} {m : Msg} (f : Feed) (hm : s.msg slot = some m)
    (hsorted : tableSorted s.store.due = true) :
    (s.joinDue slot f).dueList (dueKey (s.sub m.subIndex).homeWindow f) =
      s.dueList (dueKey (s.sub m.subIndex).homeWindow f) ++ [slot] := by
  rw [State.dueList, State.joinDue_store f hm]
  exact tableGet_set_same _ _ _ _ hsorted

/-- A join leaves every other list. -/
theorem State.dueList_joinDue_other {s : State} {slot key : Nat} {m : Msg} (f : Feed) (hm : s.msg slot = some m)
    (hkey : key ≠ dueKey (s.sub m.subIndex).homeWindow f) : (s.joinDue slot f).dueList key = s.dueList key := by
  rw [State.dueList, State.joinDue_store f hm]
  exact tableGet_set_other _ _ _ hkey

theorem State.rest_of_unlisted {m : Msg} (hfeed : m.feed = none) (s : State) (slot : Nat) (n : Serial) :
    s.rest slot m n = (s.putMsg slot { m with state := .resting n }).joinDue slot .retry := by
  rw [State.rest, State.leaveDue_none (State.msg_putMsg_same s slot { m with state := .resting n }) hfeed]

/-! ### The next message of the RECOVERY sweep (R178) -/

/-- The records of a table that the sweep stops at. -/
def sweepStopsAt (t : Table Subscriber) (j : Nat) : Prop :=
  (tableGet t Subscriber.vacant j).state ≠ .vacant ∧ (tableGet t Subscriber.vacant j).pendingList ≠ []

theorem tableGet_cons {α : Type} (k : Nat) (a : α) (t : Table α) (d : α) (j : Nat) :
    tableGet ((k, a) :: t) d j = if j = k then a else tableGet t d j := by
  unfold tableGet
  rw [tableFind]
  split <;> rfl

theorem tableGet_of_above {α : Type} {k j : Nat} {t : Table α} (d : α) (h : tableAbove k t = true) (hj : j ≤ k) :
    tableGet t d j = d := by
  rw [tableGet, tableAbove_find t h hj]
  rfl

theorem sweepStopsAt_cons {k : Nat} {r : Subscriber} {t : Table Subscriber} {j : Nat} :
    sweepStopsAt ((k, r) :: t) j ↔ if j = k then r.state ≠ .vacant ∧ r.pendingList ≠ [] else sweepStopsAt t j := by
  unfold sweepStopsAt
  rw [tableGet_cons]
  split <;> rfl

theorem not_sweepStopsAt_of_above {k j : Nat} {t : Table Subscriber} (h : tableAbove k t = true) (hj : j ≤ k) :
    ¬ sweepStopsAt t j := by
  rw [sweepStopsAt, tableGet_of_above _ h hj]
  exact fun hs => hs.1 rfl

/-- The sweep finds the first record it stops at. -/
theorem nextPending_first {n i : Nat} {t : Table Subscriber} (hsorted : tableSorted t = true) (hn : n ≤ i)
    (hi : sweepStopsAt t i) (hfirst : ∀ j, n ≤ j → j < i → ¬ sweepStopsAt t j) :
    nextPending n t = some (i, (tableGet t Subscriber.vacant i).pendingList) := by
  induction t with
  | nil => exact absurd rfl hi.1
  | cons p t ih =>
    obtain ⟨k, r⟩ := p
    obtain ⟨habove, hrest⟩ := Bool.and_eq_true_iff.1 hsorted
    rw [nextPending]
    by_cases hk : i = k
    · rw [sweepStopsAt_cons, if_pos hk] at hi
      rw [if_pos ⟨hk ▸ hn, hi.1, hi.2⟩, tableGet_cons, if_pos hk, hk]
    · have hit : sweepStopsAt t i := by rwa [sweepStopsAt_cons, if_neg hk] at hi
      have hki : k < i := by
        refine Classical.byContradiction fun hle => ?_
        exact not_sweepStopsAt_of_above habove (Nat.le_of_not_lt hle) hit
      have hpass : ¬ (n ≤ k ∧ r.state ≠ .vacant ∧ r.pendingList ≠ []) := fun h =>
        hfirst k h.1 hki (by rw [sweepStopsAt_cons, if_pos rfl]; exact h.2)
      have hfirst' : ∀ j, n ≤ j → j < i → ¬ sweepStopsAt t j := by
        intro j hnj hji hj
        by_cases hjk : j = k
        · exact not_sweepStopsAt_of_above habove (Nat.le_of_eq hjk) hj
        · exact hfirst j hnj hji (by rwa [sweepStopsAt_cons, if_neg hjk])
      rw [if_neg hpass, tableGet_cons, if_neg hk]
      exact ih hrest hit hfirst'

theorem nextPending_eq_none {n : Nat} {t : Table Subscriber} (h : ∀ j, n ≤ j → ¬ sweepStopsAt t j)
    (hsorted : tableSorted t = true) : nextPending n t = none := by
  induction t with
  | nil => rfl
  | cons p t ih =>
    obtain ⟨k, r⟩ := p
    obtain ⟨habove, hrest⟩ := Bool.and_eq_true_iff.1 hsorted
    have hpass : ¬ (n ≤ k ∧ r.state ≠ .vacant ∧ r.pendingList ≠ []) := fun hk =>
      h k hk.1 (by rw [sweepStopsAt_cons, if_pos rfl]; exact hk.2)
    rw [nextPending, if_neg hpass]
    refine ih (fun j hnj hj => ?_) hrest
    by_cases hjk : j = k
    · exact not_sweepStopsAt_of_above habove (Nat.le_of_eq hjk) hj
    · exact h j hnj (by rwa [sweepStopsAt_cons, if_neg hjk])

/-- A record the sweep stops at keeps it going. -/
theorem nextPending_isSome {n i : Nat} {t : Table Subscriber} (hsorted : tableSorted t = true) (hn : n ≤ i)
    (hi : sweepStopsAt t i) : ∃ j l, nextPending n t = some (j, l) ∧ l ≠ [] := by
  induction i using Nat.strongRecOn with
  | ind i ih =>
    by_cases hbefore : ∃ k, n ≤ k ∧ k < i ∧ sweepStopsAt t k
    · obtain ⟨k, hnk, hki, hk⟩ := hbefore
      exact ih k hki hnk hk
    · exact ⟨_, _, nextPending_first hsorted hn hi fun k hnk hki hk => hbefore ⟨k, hnk, hki, hk⟩, hi.2⟩

theorem State.sweepNext_of_reaches {s : State} {p p1 : RecoveryPos} {slot : Nat} (hsorted : tableSorted s.subs = true)
    (h : s.recoveryReaches p slot p1) : s.sweepNext p = some (slot, p1) := by
  unfold State.sweepNext
  rcases h with ⟨rest, hrest, rfl⟩ | ⟨hrest, i, rest, hn, hstate, hlist, hpassed, rfl⟩
  · rw [hrest]
  · have hstop : sweepStopsAt s.subs i := ⟨hstate, by rw [← State.sub, hlist]; exact List.cons_ne_nil _ _⟩
    have hfirst : ∀ j, p.next ≤ j → j < i → ¬ sweepStopsAt s.subs j := fun j hnj hji hj =>
      (hpassed j hnj hji).elim hj.1 hj.2
    rw [hrest, nextPending_first hsorted hn hstop hfirst, ← State.sub, hlist]

theorem State.sweepNext_eq_none_iff {s : State} {p : RecoveryPos} (hsorted : tableSorted s.subs = true) :
    s.sweepNext p = none ↔ s.recoveryOver p := by
  unfold State.sweepNext State.recoveryOver
  cases hrest : p.rest with
  | cons slot rest => exact ⟨nofun, fun h => absurd h.1 (List.cons_ne_nil _ _)⟩
  | nil =>
    dsimp only
    constructor
    · intro h
      refine ⟨rfl, fun j hnj => ?_⟩
      refine Classical.byContradiction fun hstop => ?_
      obtain ⟨k, l, hnext, hl⟩ := nextPending_isSome hsorted hnj (not_or.1 hstop)
      obtain ⟨slot, rest, rfl⟩ := List.exists_cons_of_ne_nil hl
      rw [hnext] at h
      cases h
    · intro h
      rw [nextPending_eq_none (fun j hnj hj => (h.2 j hnj).elim hj.1 hj.2) hsorted]

/-! ### The sweep's treatment of a message (R178) -/

theorem State.clearLink_eq (s : State) (slot : Nat) (m : Msg) :
    s.clearLink slot m = if m.link = none then s else s.putMsg slot { m with link := none } := by
  unfold State.clearLink
  cases m.link <;> rfl

theorem State.sub_clearLink (s : State) (slot : Nat) (m : Msg) (i : Nat) : (s.clearLink slot m).sub i = s.sub i := by
  unfold State.clearLink
  split <;> simp

theorem State.clearLink_tracker (s : State) (slot : Nat) (m : Msg) : (s.clearLink slot m).tracker = s.tracker :=
  (by unfold State.clearLink; simp : KeptBut [.store, .faults, .stats, .parity] s (s.clearLink slot m))
    .tracker (by simp)

@[simp] theorem State.putMsg_tracker (s : State) (slot : Nat) (m : Msg) : (s.putMsg slot m).tracker = s.tracker :=
  (by simp : KeptBut [.store, .faults, .stats, .parity] s (s.putMsg slot m)) .tracker (by simp)

/-- A two-way message left RESTING has its entry made BETWEEN, and no other state is touched. -/
theorem State.restoreEntry_eq (s : State) (slot : Nat) (m : Msg) :
    s.restoreEntry slot m = s.withTracker { s.tracker with
      entries :=
        if (s.sub m.subIndex).twoWay then s.tracker.entries ++ [⟨(s.sub m.subIndex).airTag, m.seq, slot, .between⟩]
        else s.tracker.entries } := by
  unfold State.restoreEntry
  split <;> rfl

theorem State.recoverMsg_awaiting {m : Msg} (hstate : m.state = .awaiting) (s : State) (slot : Nat) :
    s.recoverMsg slot m =
      if m.sends < s.unit.setup.maxSends then
        ((s.rest slot { m with link := none } s.clock.serial).addBetween slot
          { m with link := none }).noteReads [.serial]
      else s.finishUnlinked slot { m with link := none } (if m.held = 0 then .undelivered else .partly) := by
  cases m
  cases hstate
  rfl

theorem State.recoverMsg_stageClaim {m : Msg} {o : Ending} {n : Serial} (hstate : m.state = .finishing o n .claim)
    (s : State) (slot : Nat) : s.recoverMsg slot m = (s.putMsg slot { m with link := none }).settle slot := by
  cases m
  cases hstate
  rfl

theorem State.recoverMsg_stageQueue {m : Msg} {o : Ending} {n : Serial} (hstate : m.state = .finishing o n .queue)
    (s : State) (slot : Nat) : s.recoverMsg slot m = s := by
  cases m
  cases hstate
  rfl

/-- One step of the sweep treats the message it comes to. -/
theorem State.recoveryStep_eq {s : State} {p p1 : RecoveryPos} {slot : Nat} {m : Msg} (e : Env)
    (hengine : s.unit.engine = .recovery) (hreset : s.unit.resetLow = false) (hp : s.unit.recovery = some p)
    (hnext : s.sweepNext p = some (slot, p1)) (hm : s.msg slot = some m) :
    s.recoveryStep e =
      (((s.advance e.moment).withUnit { s.unit with recovery := some p1 }).recoverMsg slot m).noteReads
        (subscribersFrom p.next p1.next ++ [.message slot, .subscriber m.subIndex]) := by
  have hrec : s.recovering = true := (State.recovering_iff s).2 ⟨hengine, hreset⟩
  have hm' : ((s.advance e.moment).withUnit { s.unit with recovery := some p1 }).msg slot = some m := hm
  unfold State.recoveryStep
  rw [hp]
  dsimp only
  rw [if_pos hrec, hnext]
  dsimp only
  rw [hm', State.readsOf_some hm]

/-- Settles O11: the table of R178 row by row, the AWAITING row through what a rest does to the lists. -/
theorem recoverySweepTreatsMessage : Obligations.RecoverySweepTreatsMessage := by
  intro e s p p1 slot m hengine hreset hp hsorted hreach hm u passed bare between
  have hmu : u.msg slot = some m := hm
  refine ⟨u.recoverMsg slot m, ?_, ?_, ?_, ?_, ?_, ?_, ?_, ?_, ?_, ?_⟩
  · exact congrArg Host.Outcome.next
      (State.recoveryStep_eq e hengine hreset hp (State.sweepNext_of_reaches hsorted hreach) hm)
  · intro hstate
    rw [State.recoverMsg, hstate]
    exact u.clearLink_eq slot m
  · intro nb hstate
    rw [State.recoverMsg, hstate]
    dsimp only
    rw [State.restoreEntry_eq, State.sub_clearLink, State.clearLink_tracker, State.clearLink_eq]
    rfl
  · intro before hstate hmark
    rw [State.recoverMsg, hstate]
    exact if_pos hmark
  · intro hstate hmark
    rw [State.recoverMsg, hstate]
    exact if_neg (by rw [hmark]; exact Bool.false_ne_true)
  · intro nb hstate hmark
    rw [State.recoverMsg, hstate]
    dsimp only
    rw [if_neg (by rw [hmark]; exact Bool.false_ne_true), State.restoreEntry_eq, State.sub_putMsg,
      State.putMsg_tracker]
    rfl
  · intro hstate hsends hfeed hdue key
    have hrow : u.recoverMsg slot m =
        (((u.putMsg slot { bare with state := .resting s.clock.serial }).joinDue slot .retry).addBetween slot
          bare).noteReads [.serial] := by
      rw [State.recoverMsg_awaiting hstate, if_pos (show m.sends < u.unit.setup.maxSends from hsends),
        State.rest_of_unlisted (m := bare) hfeed]
      rfl
    have hrested := State.msg_putMsg_same u slot { bare with state := .resting s.clock.serial }
    have hkey : dueKey ((u.putMsg slot { bare with state := .resting s.clock.serial }).sub bare.subIndex).homeWindow
        .retry = key := by
      rw [State.sub_putMsg]
      rfl
    have hsub : ∀ i, ((u.putMsg slot { bare with state := .resting s.clock.serial }).joinDue slot .retry).sub i =
        s.sub i := by
      intro i
      exact State.sub_congr ((by simp [u] : KeptBut [.now, .unit, .store, .claims, .faults, .stats, .parity] s
        ((u.putMsg slot { bare with state := .resting s.clock.serial }).joinDue slot .retry)) .subs (by simp)) i
    have htracker : ((u.putMsg slot { bare with state := .resting s.clock.serial }).joinDue slot .retry).tracker =
        s.tracker :=
      (by simp [u] : KeptBut [.now, .unit, .store, .claims, .faults, .stats, .parity] s
        ((u.putMsg slot { bare with state := .resting s.clock.serial }).joinDue slot .retry)) .tracker (by simp)
    rw [hrow]
    refine ⟨?_, ?_, fun k hk => ?_, ?_, fun k hk => ?_, ?_⟩
    · exact (State.msg_noteReads _ _ _).trans (State.msg_joinDue_same .retry hrested)
    · calc _ = ((u.putMsg slot { bare with state := .resting s.clock.serial }).joinDue slot .retry).dueList key := by
            rw [State.dueList, State.noteReads_store]; rfl
        _ = _ := by
            rw [← hkey]
            exact (State.dueList_joinDue_same .retry hrested (by rw [State.putMsg_store]; exact hdue)).trans
              (by rw [State.dueList, State.putMsg_store]; rfl)
    · calc _ = ((u.putMsg slot { bare with state := .resting s.clock.serial }).joinDue slot .retry).dueList k := by
            rw [State.dueList, State.noteReads_store]; rfl
        _ = _ := by
            rw [State.dueList_joinDue_other .retry hrested (by rw [hkey]; exact hk), State.dueList, State.putMsg_store]
            rfl
    · rw [State.noteReads_tracker, State.addBetween, State.withTracker_tracker, hsub, htracker]
    · calc _ = ((u.putMsg slot { bare with state := .resting s.clock.serial }).joinDue slot .retry).msg k := by
            rw [State.msg_noteReads]; rfl
        _ = _ := (State.msg_joinDue_other .retry hrested hk).trans (State.msg_putMsg_other u _ hk)
    · simp [u]
  · intro hstate hsends
    rw [State.recoverMsg_awaiting hstate]
    exact if_neg hsends
  · intro o f hstate
    exact State.recoverMsg_stageClaim hstate u slot
  · intro o f hstate
    exact State.recoverMsg_stageQueue hstate u slot

/-- Settles O12: the sweep is over exactly when it finds no next message. -/
theorem recoverySweepCompleteEntersService : Obligations.RecoverySweepCompleteEntersService := by
  intro e s p hengine hreset hp hsorted
  have hrec : s.recovering = true := (State.recovering_iff s).2 ⟨hengine, hreset⟩
  refine ⟨fun hover => congrArg Host.Outcome.next ?_, fun hover => congrArg Host.Outcome.next ?_⟩
  · have hnone := (State.sweepNext_eq_none_iff hsorted).2 hover
    unfold State.recoveryDone
    rw [hp]
    dsimp only
    rw [hrec, hnone, if_pos (by rfl)]
    simp only [List.isEmpty_iff]
    rfl
  · have hsome : (s.sweepNext p).isNone = false := by
      rw [Option.isNone_eq_false_iff, Option.isSome_iff_ne_none]
      exact fun h => hover ((State.sweepNext_eq_none_iff hsorted).1 h)
    unfold State.recoveryDone
    rw [hp]
    dsimp only
    rw [hsome, Bool.and_false, if_neg Bool.false_ne_true]

/-! ### Reset, the INIT sweep and RESTART -/

/-- Settles O1: `step` takes the front of the queue. -/
theorem stepRunsCommandAtFront : Obligations.StepRunsCommandAtFront := fun _ _ _ => rfl

/-- Settles O6: the two cases of the pulse's width, and the two of a release. -/
theorem resetAssertedThenReleased : Obligations.ResetAssertedThenReleased := by
  refine ⟨fun n s hn => ?_, fun n s hn => ?_, fun s hlow => ?_, fun s hlow => ?_⟩
  · exact congrArg Host.Outcome.next (if_neg (Nat.not_lt.2 hn))
  · exact congrArg Host.Outcome.next (if_pos hn)
  · exact congrArg Host.Outcome.next (if_pos hlow)
  · exact congrArg Host.Outcome.next (if_neg (by rw [hlow]; exact Bool.false_ne_true))

/-- Settles O9: the sweep's cold values, read back one by one. -/
theorem initSweepEntersService : Obligations.InitSweepEntersService := by
  intro s hengine hphase hreset
  have hsweep : s.sweepingInit = true := by simp [State.sweepingInit, hengine, hphase, hreset]
  refine ⟨_, congrArg Host.Outcome.next (if_pos hsweep), rfl, poolCount_cold, rfl, fun _ => rfl, fun _ => rfl, rfl,
    fun _ => rfl, rfl, rfl, rfl, fun _ => ⟨rfl, rfl⟩, rfl, rfl, rfl, rfl, rfl⟩

/-- Settles O10: the Claim Builder is cold after a RESTART, so that no test of R103 follows it. -/
theorem restartEntersRecovery : Obligations.RestartEntersRecovery := by
  intro h e s htaken
  have hidle : (s.atFrame h e).takeRestart.claims.startTest = false := by
    rw [State.takeRestart, State.noteReads_claims]
    rfl
  refine congrArg Host.Outcome.next ?_
  rw [s.hear_taken h e _ _ htaken, State.testStart_idle _ hidle]
  rfl

/-- Settles O54: the reset state is closed data. -/
theorem resetMeetsInvariants : Obligations.ResetMeetsInvariants := by
  have hwf : State.reset.storeWf = true := rfl
  have hslots : SlotsConserved State.reset := ⟨rfl, List.nodup_nil,
    fun _ h => absurd h List.not_mem_nil, fun _ h => absurd h List.not_mem_nil, rfl, Nat.zero_le _⟩
  have hrecords : RecordsNumbered State.reset := ⟨Nat.zero_le _, by decide,
    by simp [State.reset, RecordQueue.cold]⟩
  have hmark : HighMarkBelowCap State.reset := Nat.zero_le _
  have hnotices : NoticesBounded State.reset := ⟨Nat.zero_le _, fun _ h => absurd h List.not_mem_nil⟩
  have hdelayed : DelayedTableKeyed State.reset := ⟨Nat.zero_le _, List.Pairwise.nil,
    fun _ h => absurd h List.not_mem_nil⟩
  have hclaims : ClaimsNeedTracking State.reset := ⟨rfl, nofun, nofun, nofun⟩
  have hstats : CountersBounded State.reset := fun _ => Nat.zero_le _
  refine ⟨?_, hslots, hrecords, hmark, clockShape_cold 0, hnotices, hdelayed, hwf, hstats, hclaims⟩
  exact ⟨rfl, rfl, rfl, rfl, rfl, rfl, rfl, rfl, rfl, rfl, rfl, rfl, rfl, rfl, rfl, rfl, rfl, rfl, rfl, rfl, rfl, rfl,
    rfl, rfl, rfl, rfl, rfl, rfl, rfl, rfl, poolCount_cold, rfl, fun _ => rfl, fun _ => rfl, rfl⟩

end Sys2Proof.Machine
end

section
/-! Frames that are dropped (R9 to R11), and the FAULT line with the bytes of bad parity (R180 to R182). -/

namespace Sys2Proof.Machine

/-! ### Frames dropped (R9 to R11) -/

theorem kindOfBody_of_readBody {k : TakenKind} {bytes : List Byte} {b : Body} (h : readBody k bytes = some b) :
    kindOfBody b = k := by
  delta readBody at h
  -- The goal is named since `recall` alone, a keyword, names no case.
  refine ?kind
  cases k
  case mark =>
    iterate 3 rcases bytes with _ | ⟨_, bytes⟩; · cases h
    dsimp only at h
    split at h <;> cases h
    rfl
  case report =>
    iterate 4 rcases bytes with _ | ⟨_, bytes⟩; · cases h
    dsimp only at h
    cases hread : readEntries bytes with
    | none => rw [hread] at h; cases h
    | some l =>
      rw [hread] at h
      dsimp only at h
      split at h <;> cases h
      rfl
  case claim =>
    iterate 5 rcases bytes with _ | ⟨_, bytes⟩; · cases h
    dsimp only at h
    cases hread : readItems bytes with
    | none => rw [hread] at h; cases h
    | some l =>
      rw [hread] at h
      dsimp only at h
      split at h <;> cases h
      rfl
  case deposit =>
    iterate 9 rcases bytes with _ | ⟨_, bytes⟩; · cases h
    dsimp only at h
    split at h <;> cases h
    rfl
  case heard =>
    iterate 7 rcases bytes with _ | ⟨_, bytes⟩; · cases h
    cases bytes <;> cases h
    rfl
  case kind.recall =>
    iterate 4 rcases bytes with _ | ⟨_, bytes⟩; · cases h
    cases bytes <;> cases h
    rfl
  case load =>
    iterate 24 rcases bytes with _ | ⟨_, bytes⟩; · cases h
    cases bytes <;> cases h
    rfl
  case tariffStage =>
    iterate 6 rcases bytes with _ | ⟨_, bytes⟩; · cases h
    cases bytes <;> cases h
    rfl
  case credit | query =>
    iterate 8 rcases bytes with _ | ⟨_, bytes⟩; · cases h
    cases bytes <;> cases h
    rfl
  case periodClose =>
    iterate 1 rcases bytes with _ | ⟨_, bytes⟩; · cases h
    cases bytes <;> cases h
    rfl
  case restart =>
    cases bytes <;> cases h
    rfl

theorem frameSound_iff (f : WireFrame) : f.sound = true ↔
    frameTooLong f = false ∧ frameShort f = false ∧ checkFails f = false ∧ headMalformed f.head = false := by
  simp only [WireFrame.sound, headMalformed, Bool.and_eq_true, Bool.not_eq_true', Bool.or_eq_false_iff, and_assoc]

/-- A frame that passes R7 and R8 and that the engine does not want is passed over. -/
theorem State.hearWire_unwanted {s : State} {f : WireFrame} (e : Env) (hl : s.listening = true)
    (hf : f.sound = true) (hw : s.wanted f = none) : s.hearWire e f = s.frameMoment e := by
  obtain ⟨hlong, hshort, hcheck, hhead⟩ := (frameSound_iff f).1 hf
  simp [State.hearWire, hl, hlong, hshort, hcheck, hhead, hw]

/-- A frame of a kind the engine wants, from a source not listed for the kind. -/
theorem State.hearWire_misdirected {s : State} {f : WireFrame} {k : TakenKind} (e : Env) (hl : s.listening = true)
    (hf : f.sound = true) (hw : s.wanted f = some k) (hsrc : s.sourceListed k f.head.src.toNat = false) :
    s.hearWire e f = (s.frameMoment e).bump .framesMisdirected := by
  obtain ⟨hlong, hshort, hcheck, hhead⟩ := (frameSound_iff f).1 hf
  simp [State.hearWire, hl, hlong, hshort, hcheck, hhead, hw, hsrc]

/-- A frame whose bytes read as no body, or as one without the form of its kind. -/
theorem State.hearWire_malformed {s : State} {f : WireFrame} {k : TakenKind} (e : Env) (hl : s.listening = true)
    (hf : f.sound = true) (hw : s.wanted f = some k) (hsrc : s.sourceListed k f.head.src.toNat = true)
    (hform : ∀ b, readBody k (f.body.take f.len.toNat) = some b → formOk f.head b = false) :
    s.hearWire e f = (s.frameMoment e).bump .framesMalformed := by
  obtain ⟨hlong, hshort, hcheck, hhead⟩ := (frameSound_iff f).1 hf
  have haddressed : (s.toSelf f.head || decide (f.head.dst = 31)) = true := by
    refine Classical.byContradiction fun hnot => ?_
    rw [State.wanted, if_neg hnot] at hw
    cases hw
  cases hread : readBody k (f.body.take f.len.toNat) with
  | none => simp [State.hearWire, hl, hlong, hshort, hcheck, hhead, hw, hsrc, hread]
  | some b =>
    have hsrc' : s.sourceListed (kindOfBody b) f.head.src.toNat = true := by rwa [kindOfBody_of_readBody hread]
    have hhear : ∀ act, s.hear f.head e b act = (s.frameMoment e).bump .framesMalformed := by
      intro act
      unfold State.hear
      simp only [hl, hhead, haddressed, hsrc', hform b hread, Bool.not_true, Bool.not_false, if_true,
        Bool.false_eq_true, if_false]
    simp only [State.hearWire, hl, hlong, hshort, hcheck, hhead, hw, hsrc, hread, hhear, Bool.not_true,
      Bool.false_eq_true, if_false, Bool.or_self]

theorem State.wanted_eq_none {s : State} {f : WireFrame}
    (h : ¬ (f.head.dst.toNat = s.unit.setup.own ∨ f.head.dst = 31) ∨ kindOfCode f.kind = none) : s.wanted f = none := by
  unfold State.wanted
  split
  · next hdst =>
    refine h.resolve_left (Classical.not_not.2 ?_)
    simpa [State.toSelf] using hdst
  · rfl

theorem State.wanted_eq_some {s : State} {f : WireFrame} {k : TakenKind}
    (hdst : f.head.dst.toNat = s.unit.setup.own ∨ f.head.dst = 31) (hk : kindOfCode f.kind = some k) :
    s.wanted f = some k := by
  unfold State.wanted
  rw [if_pos (by simpa [State.toSelf] using hdst), hk]

theorem State.sourceListed_iff (s : State) (k : TakenKind) (src : Nat) : s.sourceListed k src = true ↔
    match k with
    | .mark => src ∈ s.unit.setup.controllers
    | .report => src ∈ s.unit.setup.controllers
    | .load => src = s.unit.setup.provisioning
    | .tariffStage => src = s.unit.setup.provisioning
    | .credit => src = s.unit.setup.collector
    | .periodClose => src = s.unit.setup.collector
    | .query => src = s.unit.setup.maintenance
    | .restart => src = s.unit.setup.maintenance
    | _ => True := by
  cases k <;> simp [State.sourceListed]

theorem queryArgInRange_iff {kind arg : Nat} (hkind : kind ≤ 3) : queryArgInRange kind arg = true ↔
    (kind = 1 → arg ≤ 16777215) ∧ (kind = 2 → arg ≤ 8191) ∧ (kind = 0 ∨ kind = 3 → arg = 0) := by
  unfold queryArgInRange
  split
  · next h => simp [h]
  · split
    · next h => simp [h]
    · simp only [decide_eq_true_eq]
      omega

/-- The form of a body in a frame's header (R11): the class of its kind, its turn, and its fields. -/
theorem formOk_iff (h : Header) (b : Body) : formOk h b = true ↔
    h.cls.toNat = classOfKind (kindOfBody b) ∧ turnOk h.turn b = true ∧ bodyInRange b = true := by
  simp only [formOk, Bool.and_eq_true, decide_eq_true_eq, and_assoc]

theorem cls_toNat_iff (c : BitVec 3) (n : Nat) (hn : n < 8) : c.toNat = n ↔ c = BitVec.ofNat 3 n := by
  rw [BitVec.toNat_eq, BitVec.toNat_ofNat, Nat.mod_eq_of_lt hn]

/-- Settles O5: the receiver's tests in their order, the table of sources, and the ranges body by body. -/
theorem unwantedFramesDropped : Obligations.UnwantedFramesDropped := by
  intro e f s hl hf
  refine ⟨fun h => ?_, fun k hdst hk => ⟨fun hsrc => ?_, fun hsrc hform => ?_⟩,
    fun s k src => s.sourceListed_iff k src |>.trans (by cases k <;> rfl), fun h b => ?_⟩
  · exact congrArg Host.Outcome.next (State.hearWire_unwanted e hl hf (State.wanted_eq_none h))
  · exact congrArg Host.Outcome.next (State.hearWire_misdirected e hl hf (State.wanted_eq_some hdst hk) hsrc)
  · exact congrArg Host.Outcome.next (State.hearWire_malformed e hl hf (State.wanted_eq_some hdst hk) hsrc hform)
  · rw [formOk_iff]
    cases b with
    | query k x =>
      simp only [kindOfBody, classOfKind, turnOk, bodyInRange, Bool.and_eq_true, decide_eq_true_eq,
        cls_toNat_iff _ 6 (by decide), and_assoc]
      by_cases hk : k.toNat ≤ 3
      · rw [queryArgInRange_iff hk]
        rfl
      · simp [hk]
    | mark | report =>
      simp only [kindOfBody, classOfKind, turnOk, bodyInRange, entryInRange, Bool.and_eq_true, List.all_eq_true,
        decide_eq_true_eq, cls_toNat_iff _ 0 (by decide), and_assoc]
      exact and_congr_right fun _ => and_congr_right fun _ => and_left_comm
    | _ =>
      simp only [kindOfBody, classOfKind, turnOk, bodyInRange, itemInRange, Bool.and_eq_true,
        List.all_eq_true, decide_eq_true_eq, cls_toNat_iff _ 1 (by decide), cls_toNat_iff _ 2 (by decide),
        cls_toNat_iff _ 4 (by decide), cls_toNat_iff _ 6 (by decide), and_assoc, and_true]
      exact Iff.rfl

/-! ### Fault causes and the FAULT line (R180, R181) -/

theorem causesAny_iff (k : Causes) : causesAny k = true ↔ ∃ c, causesHas k c = true := by
  constructor
  · intro h
    simp only [causesAny, Bool.or_eq_true] at h
    rcases h with (((h | h) | h) | h) | h
    · exact ⟨.setupBad, h⟩
    · exact ⟨.clockLost, h⟩
    · exact ⟨.recordsStalled, h⟩
    · exact ⟨.storeParity, h⟩
    · exact ⟨.outstandingFull, h⟩
  · rintro ⟨c, h⟩
    cases c <;> simp_all [causesHas, causesAny]

theorem causesHas_latch (k : Causes) (c d : Cause) :
    causesHas (causesLatch k c) d = (decide (d = c) || causesHas k d) := by
  cases c <;> cases d <;> rfl

theorem State.faultLine_iff (s : State) : s.faultLine = true ↔
    s.unit.resetLow = false ∧ ((∃ c, causesHas s.faults.causes c = true) ∨
      ∃ t, s.faults.lineEnd = some t ∧ s.now < t) := by
  simp only [State.faultLine, Bool.and_eq_true, Bool.not_eq_true', Bool.or_eq_true, causesAny_iff, Option.any_eq_true,
    decide_eq_true_eq]

theorem State.latch_faultLine {s : State} (c : Cause) (hreset : s.unit.resetLow = false) :
    (s.latch c).faultLine = true :=
  (State.faultLine_iff _).2 ⟨hreset, .inl ⟨c, by rw [(s.latch_eq c).1, causesHas_latch,
    decide_eq_true rfl, Bool.true_or]⟩⟩

theorem State.stat_latch_same {s : State} (c : Cause) (hsorted : tableSorted s.stats = true) :
    (s.latch c).stat (latchStat c) = min 65535 (s.stat (latchStat c) + 1) :=
  State.stat_bump_same _ (latchStat c) hsorted

theorem State.stat_latch_other (s : State) {c : Cause} {k : Stat} (hk : k ≠ latchStat c) :
    (s.latch c).stat k = s.stat k :=
  State.stat_bump_other _ hk

/-! ### Bytes of bad parity (R182) -/

/-- One byte more is noted after those before it. -/
theorem State.noteParity_append (s : State) (l : List Nat) {a : Nat} (ha : a < 4768900) :
    s.noteParity (l ++ [a]) =
      State.bump { (s.noteParity l).latch .storeParity with
        faults := { ((s.noteParity l).latch .storeParity).faults with lastError := some a } } .storeErrors := by
  rw [State.noteParity, List.foldl_append, ← State.noteParity]
  exact if_pos ha

/-- A byte of bad parity has been met: the cause is latched and an address kept. -/
def parityMet (s : State) : Prop := s.faults.causes.storeParity = true ∧ s.faults.lastError.isSome = true

theorem parityMet_parityError {s : State} {a : Nat} (h : parityMet s ∨ a < 4768900) : parityMet (s.parityError a) := by
  unfold State.parityError
  split
  · exact ⟨rfl, rfl⟩
  · next hlt => exact h.resolve_right hlt

theorem parityMet_noteParity {s : State} {l : List Nat} {a : Nat} (ha : a ∈ l) (hlt : a < 4768900) :
    parityMet (s.noteParity l) := by
  obtain ⟨l₁, l₂, rfl⟩ := List.append_of_mem ha
  rw [State.noteParity, List.foldl_append, List.foldl_cons]
  generalize List.foldl State.parityError s l₁ = t
  have hmet : parityMet (t.parityError a) := parityMet_parityError (.inr hlt)
  generalize t.parityError a = u at hmet
  clear ha
  induction l₂ generalizing u with
  | nil => exact hmet
  | cons x l₂ ih => exact ih _ (parityMet_parityError (.inl hmet))

theorem State.rewrite_eq (s : State) (places : List StorePlace) :
    s.rewrite places = (s.noteReads (places.filter StorePlace.readFirst)).withParity
      (s.parity.filter (fun b => decide (b.2 ∉ places))) := rfl

/-- A place written again reads good. -/
theorem State.noteReads_rewrite (s : State) (places : List StorePlace) :
    (s.rewrite places).noteReads places = s.rewrite places := by
  refine State.noteReads_good _ _ (fun b hb => ?_)
  rw [State.rewrite_parity] at hb
  exact of_decide_eq_true (List.mem_filter.1 hb).2

/-- A byte that goes bad is listed with its place. -/
theorem State.goesBad_parity {s : State} {a : Nat} {v : StoreValue} (h : s.placeOf v ∈ placesAt a) :
    (s.goesBad a v).parity = tablePut s.parity a (s.placeOf v) := by
  rw [State.goesBad, if_pos h, State.withParity_parity]

theorem State.mem_badBytes_goesBad {s : State} {a : Nat} {v : StoreValue} (h : s.placeOf v ∈ placesAt a) :
    a ∈ (s.goesBad a v).badBytes [s.placeOf v] := by
  rw [State.badBytes, State.goesBad_parity h]
  refine List.mem_map.2 ⟨(a, s.placeOf v), List.mem_filter.2 ⟨mem_of_tableFind (tableFind_put_same _ _ _), ?_⟩, rfl⟩
  simp

/-- Settles O13: the line as a disjunction of its causes, the latch counts by the latching's one bump, and the noting of
bad bytes as a fold over their addresses. -/
theorem faultLineAndTimer : Obligations.FaultLineAndTimer := by
  refine ⟨State.faultLine_iff, fun s c hreset => ⟨State.latch_faultLine c hreset, rfl, rfl, fun d => ?_⟩,
    fun s t hreset hline => ⟨_, congrArg Host.Outcome.next ?_, rfl, ?_⟩, fun s c hsorted => ?_, State.noteParity_nil,
    fun s l a ha => s.noteParity_append l ha, fun s places => ⟨rfl, by simp, by simp, rfl, ?_,
      s.noteReads_rewrite places⟩,
    fun s slot => ?_, fun s a v _ ha hplace => ?_⟩
  · exact causesHas_latch _ c d
  · rw [if_neg (by rw [hreset]; exact Bool.false_ne_true), State.faultExpiry, hline]
    rfl
  · rw [State.faultLine_iff]
    simp [hreset]
  · have hcount : ∀ count, count = latchStat c →
        (s.latch c).stat count = min 65535 (s.stat count + 1) ∧ ∀ k, k ≠ count → (s.latch c).stat k = s.stat k := by
      rintro _ rfl
      exact ⟨State.stat_latch_same c hsorted, fun k hk => s.stat_latch_other hk⟩
    exact hcount _ (by cases c <;> rfl)
  · have hfirst : ∀ first, first = places.filter StorePlace.readFirst →
        (s.rewrite places).faults = (s.noteReads first).faults ∧
          (s.rewrite places).stats = (s.noteReads first).stats := by
      rintro _ rfl
      exact ⟨rfl, rfl⟩
    exact hfirst _ (List.filter_congr (fun p _ => by cases p <;> rfl))
  · unfold State.readsOf
    cases s.msg slot <;> rfl
  · obtain ⟨hcause, herror⟩ := parityMet_noteParity (s := s.goesBad a v) (State.mem_badBytes_goesBad hplace) ha
    refine ⟨hcause, herror, ?_, fun hgood => ?_⟩
    · rw [State.noteReads_parity, State.goesBad_parity hplace]
      exact tableFind_put_same _ _ _
    · have hbytes : (s.goesBad a v).badBytes [s.placeOf v] = [a] := by
        rw [State.badBytes, State.goesBad_parity hplace, hgood]
        simp [tablePut]
      rw [State.noteReads, hbytes, ← List.nil_append [a], State.noteParity_append _ _ ha]
      rfl

/-! ### The slots after the engine's own frames (R14, R16, R17, R162 to R164) -/

theorem dropOldest_waiting {onAir : Option OnAir} (h : onAir ≠ some .notice) (head : Notice) (rest : List Notice) :
    dropOldest onAir (head :: rest) = rest := by
  unfold dropOldest
  split
  · exact absurd rfl h
  · rfl

/-- Settles O15: room or none, and the slot's level with the attempts so far. -/
theorem noticeSlotAnswersHead : Obligations.NoticeSlotAnswersHead := by
  refine ⟨fun s dest body => ⟨fun h => s.addNotice_room dest body h, fun head rest hfull hq => ?_⟩,
    fun e s n rest hengine hreset hair hq => ?_⟩
  · rw [s.addNotice_full dest body (Nat.not_lt.2 hfull), hq]
    refine ⟨fun hair => ?_, fun hair => ?_⟩
    · rw [dropOldest_waiting hair]
      rfl
    · rw [hair]
      rfl
  · have hserving : s.serving = true := (State.serving_iff s).2 ⟨hengine, hreset⟩
    have hslot : ∀ d, exec (.noticeAckSlot e d) s = .next ((s.advance e.moment).noticeSlot d) := fun d =>
      congrArg Host.Outcome.next (if_pos hserving)
    have hair' : (s.advance e.moment).span.onAir = some .notice := hair
    have hunanswered : (s.advance e.moment).noticeSlot false =
        (((s.advance e.moment).withSpan { s.span with onAir := none }).noticeUnanswered) := by
      rw [State.noticeSlot, hair']
      rfl
    have hq' : ((s.advance e.moment).withSpan { s.span with onAir := none }).span.notices = n :: rest := hq
    rw [hslot, hslot, hunanswered, State.noticeUnanswered, hq']
    refine ⟨congrArg Host.Outcome.next ?_, fun hn => congrArg Host.Outcome.next (if_pos hn),
      fun hn => congrArg Host.Outcome.next (if_neg (Nat.not_lt.2 hn))⟩
    rw [State.noticeSlot, hair']
    have hrest : s.span.notices.drop 1 = rest := by rw [hq]; rfl
    rw [← hrest]
    rfl

theorem isEmpty_tail {α : Type} (l : List α) : l.tail.isEmpty = decide (l.length ≤ 1) := by
  rcases l with _ | ⟨_, _ | ⟨_, _⟩⟩ <;> rfl

/-- Settles O16: the departure or the gap by the slot's level, and the expiries at their timers. -/
theorem recordHeadDepartsOrWaits : Obligations.RecordHeadDepartsOrWaits := by
  intro e s hengine hreset u
  have hserving : s.serving = true := (State.serving_iff s).2 ⟨hengine, hreset⟩
  refine ⟨fun hair => ?_, fun t hsend => ?_, fun t hstall => ?_⟩
  · have hslot : ∀ d, exec (.recordAckSlot e d) s = .next (u.recordSlot d) := fun d =>
      congrArg Host.Outcome.next (if_pos hserving)
    have hair' : u.span.onAir = some .record := hair
    rw [hslot, hslot, State.recordSlot, State.recordSlot, hair']
    refine ⟨congrArg Host.Outcome.next ?_, rfl⟩
    dsimp only
    rw [if_pos rfl, State.depart]
    simp only [List.drop_one, isEmpty_tail, decide_eq_true_eq, State.rewrite_intake, State.rewrite_store]
    rfl
  · refine congrArg Host.Outcome.next ?_
    rw [if_pos hserving, State.resendExpiry, hsend]
    rfl
  · refine congrArg Host.Outcome.next ?_
    rw [if_pos hserving, State.stallExpiry, hstall]
    rfl

/-- Settles O17: a fault counts, and then is what the source's unanswered sending is. -/
theorem sendFaultCountsForItsSource : Obligations.SendFaultCountsForItsSource := by
  intro e s hengine hreset u
  have hserving : s.serving = true := (State.serving_iff s).2 ⟨hengine, hreset⟩
  have hfault : exec (.sendFault e) s = .next (s.advance e.moment).sendFaulted :=
    congrArg Host.Outcome.next (if_pos hserving)
  rw [hfault]
  refine ⟨fun n rest hair hq => ?_, fun hair => ?_, fun a hair => ?_⟩
  · have hair' : (s.advance e.moment).span.onAir = some .notice := hair
    have hq' : u.span.notices = n :: rest := hq
    have hsent : (s.advance e.moment).sendFaulted = u.noticeUnanswered := by
      rw [State.sendFaulted, hair']
      rfl
    rw [hsent, State.noticeUnanswered, hq']
    exact ⟨fun hn => congrArg Host.Outcome.next (if_pos hn),
      fun hn => congrArg Host.Outcome.next (if_neg (Nat.not_lt.2 hn))⟩
  · have hair' : (s.advance e.moment).span.onAir = some .record := hair
    rw [State.sendFaulted, hair']
    rfl
  · have hair' : (s.advance e.moment).span.onAir = some (.claim a) := hair
    rw [State.sendFaulted, hair']
    rfl

end Sys2Proof.Machine
end

section
/-! Accounts and charge records: CREDIT (R153 to R156), billing periods (R166 to R169), settlement (R76 to R78, R151,
R152) and the finishing wait list (R77). -/

namespace Sys2Proof.Machine

/-! ### Frames that leave no test of R103 -/

/-- A taken frame whose owner leaves no test of R103 outstanding. -/
theorem State.hear_settled {s : State} {h : Header} {b : Body} (e : Env) {act : State → State}
    (htaken : s.takes h b = true) (hidle : (act (s.atFrame h e)).claims.startTest = false) :
    s.hear h e b act = act (s.atFrame h e) := by
  rw [s.hear_taken h e b act htaken, State.testStart_idle _ hidle]

/-- A taken frame whose owner does not touch the Claim Builder. -/
theorem State.hear_beside {s : State} {h : Header} {b : Body} (e : Env) {act : State → State}
    (htaken : s.takes h b = true) (hidle : s.claims.startTest = false) {ps : List Part}
    (hkept : KeptBut ps (s.atFrame h e) (act (s.atFrame h e))) (hps : Part.claims ∉ ps) :
    s.hear h e b act = act (s.atFrame h e) := by
  have hclaims : (act (s.atFrame h e)).claims = s.claims := hkept .claims hps
  exact State.hear_settled e htaken (by rw [hclaims]; exact hidle)

/-! ### CREDIT (R153 to R156) -/

theorem rearm_eq (r : Subscriber) : rearm r = { r with armed := r.armed || decide (r.threshold < r.balance) } := by
  unfold rearm
  split
  · next h => rw [decide_eq_true h, Bool.or_true]
  · next h => rw [decide_eq_false h, Bool.or_false]

theorem creditSub_eq (r : Subscriber) (tag amount : Nat) :
    creditSub r tag amount = { r with
      balance := (creditResult r amount).balance, lastCredit := some (tag, creditResult r amount),
      armed := r.armed || decide (r.threshold < (creditResult r amount).balance) } := rearm_eq _

/-- A credit that nothing refuses and whose tag is new is applied and answered. -/
theorem State.takeCredit_new {s : State} {b : CreditBody} {index : Nat} (src : Nat) (addressed : Bool)
    (hd : s.decode b.number.toNat = some index) (hstate : (s.sub index).state ≠ .vacant)
    (hplan : (s.sub index).plan = .prepaid) (hlast : ∀ x, (s.sub index).lastCredit ≠ some (b.tag.toNat, x)) :
    s.takeCredit src addressed b =
      ((s.applyCredit index b.tag.toNat b.amount.toNat).addNotice src (.creditAnswer b.tag.toNat b.number.toNat
        (creditResult (s.sub index) b.amount.toNat) false)).noteReads [.subscriber index] := by
  unfold State.takeCredit
  dsimp only
  rw [hd]
  dsimp only
  rw [hplan]
  cases hs : (s.sub index).state with
  | vacant => exact absurd hs hstate
  | _ =>
    cases hl : (s.sub index).lastCredit with
    | none => rfl
    | some x =>
      obtain ⟨tag, x⟩ := x
      have htag : tag ≠ b.tag.toNat := fun ht => hlast x (by rw [hl, ht])
      dsimp only
      rw [if_neg htag]

/-- Settles O41: the answers in the order in which CREDIT's checks come. -/
theorem creditAppliedUpToHeadroom : Obligations.CreditAppliedUpToHeadroom := by
  intro h e b s htaken hidle answer v
  have hexec : exec (.credit h e b) s = .next (v.takeCredit h.src.toNat (s.toSelf h) b) :=
    congrArg Host.Outcome.next (State.hear_beside e htaken hidle
      (ps := [.span, .subs, .stats, .faults, .parity]) (by simp) (by simp))
  rw [hexec]
  refine ⟨fun hd => congrArg Host.Outcome.next ?_, fun index hd => ?_⟩
  · have hd' : v.decode b.number.toNat = none := hd
    unfold State.takeCredit
    dsimp only
    rw [hd']
    dsimp only
    simp only [State.toSelf, decide_eq_true_eq]
    rfl
  · intro r told applied excess result
    have hd' : v.decode b.number.toNat = some index := hd
    have hr : v.sub index = r := rfl
    refine ⟨fun hstate => ?_, fun hstate hplan => ?_, fun x hstate hplan hlast => ?_, fun hstate hplan hlast => ?_⟩
    · unfold State.takeCredit
      dsimp only
      rw [hd']
      dsimp only
      rw [hr, hstate]
      rfl
    · unfold State.takeCredit
      dsimp only
      rw [hd']
      dsimp only
      rw [hr, hplan]
      cases hs : r.state with
      | vacant => exact absurd hs hstate
      | _ => rfl
    · unfold State.takeCredit
      dsimp only
      rw [hd']
      dsimp only
      rw [hr, hplan, hlast]
      cases hs : r.state with
      | vacant => exact absurd hs hstate
      | _ =>
        dsimp only
        rw [if_pos rfl]
    · rw [State.takeCredit_new _ _ hd' hstate hplan hlast]
      unfold State.applyCredit
      dsimp only
      rw [hr, creditSub_eq]
      rfl

/-! ### PERIOD CLOSE (R166, R167) and the promotion (R145) -/

theorem tableSorted_set {α : Type} [DecidableEq α] (t : Table α) (d : α) (k : Nat) (v : α) (h : tableSorted t = true) :
    tableSorted (tableSet t d k v) = true := by
  unfold tableSet
  split
  · exact tableSorted_erase t k h
  · exact tableSorted_put t k v h

/-- What the promotion of a list of classes leaves of the tariffs. -/
theorem foldl_promoteClass {l : List Nat} (t : Tariffs) (hnodup : l.Nodup) (hl : ∀ c ∈ l, c < 8)
    (hsorted : tableSorted t.active = true) :
    (l.foldl promoteClass t).staged = t.staged ∧ (l.foldl promoteClass t).set = t.set ∧
      (l.foldl promoteClass t).loaded = t.loaded ∧
      (∀ k < 8, (l.foldl promoteClass t).marks.getLsbD k = (t.marks.getLsbD k && decide (k ∉ l))) ∧
      ∀ k, tableGet (l.foldl promoteClass t).active noTariff k =
        if k ∈ l ∧ t.marks.getLsbD k = true then tableGet t.staged noTariff k else tableGet t.active noTariff k := by
  induction l generalizing t with
  | nil => simp
  | cons c l ih =>
    obtain ⟨hc, hnodup⟩ := List.nodup_cons.1 hnodup
    rw [List.foldl_cons]
    by_cases hmark : t.marks.getLsbD c = true
    · have hone : promoteClass t c = { t with
          active := tableSet t.active noTariff c (tableGet t.staged noTariff c),
          marks := t.marks &&& ~~~ classMark c } := if_pos hmark
      obtain ⟨hstaged, hset, hloaded, hmarks, hactive⟩ := ih (promoteClass t c) hnodup
        (fun x hx => hl x (List.mem_cons_of_mem c hx)) (by rw [hone]; exact tableSorted_set _ _ _ _ hsorted)
      rw [hone] at hstaged hset hloaded hmarks hactive
      have hkeeps : ∀ k < 8, (t.marks &&& ~~~ classMark c).getLsbD k = (t.marks.getLsbD k && decide (k ≠ c)) := by
        intro k hk
        rw [BitVec.getLsbD_and, BitVec.getLsbD_not, classMark_getLsbD hk]
        simp [hk]
      refine ⟨by rw [hone, hstaged], by rw [hone, hset], by rw [hone, hloaded], fun k hk => ?_, fun k => ?_⟩
      · rw [hone, hmarks k hk, hkeeps k hk, Bool.and_assoc]
        congr 1
        simp [List.mem_cons, not_or]
      · rw [hone, hactive k]
        dsimp only
        rw [tableGet_set _ _ _ _ _ hsorted]
        by_cases hkc : k = c
        · rw [if_neg (fun hk => hc (hkc ▸ hk.1)), if_pos hkc, if_pos ⟨hkc ▸ List.mem_cons_self, hkc ▸ hmark⟩, hkc]
        · by_cases hkl : k ∈ l
          · have hk8 : k < 8 := hl k (List.mem_cons_of_mem c hkl)
            rw [hkeeps k hk8, if_neg hkc]
            simp [hkc, hkl]
          · rw [if_neg (fun hk => hkl hk.1), if_neg hkc,
              if_neg (fun hk => (List.mem_cons.1 hk.1).elim hkc hkl)]
    · have hone : promoteClass t c = t := if_neg hmark
      rw [hone]
      obtain ⟨hstaged, hset, hloaded, hmarks, hactive⟩ := ih t hnodup (fun x hx =>
        hl x (List.mem_cons_of_mem c hx)) hsorted
      refine ⟨hstaged, hset, hloaded, fun k hk => ?_, fun k => ?_⟩
      · rw [hmarks k hk]
        by_cases hkc : k = c
        · rw [hkc, Bool.eq_false_iff.2 hmark, Bool.false_and, Bool.false_and]
        · simp [hkc]
      · rw [hactive k]
        by_cases hkc : k = c
        · rw [if_neg (fun hk => hmark (hkc ▸ hk.2)), if_neg (fun hk => hmark (hkc ▸ hk.2))]
        · simp [hkc]

/-- The promotion takes every staged class over and clears its mark. -/
theorem promote_spec (t : Tariffs) (hsorted : tableSorted t.active = true) :
    (promote t).staged = t.staged ∧ (promote t).set = t.set ∧ (promote t).loaded = t.loaded ∧ (promote t).marks = 0 ∧
      ∀ c < 8, tableGet (promote t).active noTariff c =
        if t.marks.getLsbD c then tableGet t.staged noTariff c else tableGet t.active noTariff c := by
  have hall : ∀ c, c ∈ [0, 1, 2, 3, 4, 5, 6, 7] ↔ c < 8 := by
    intro c
    simp only [List.mem_cons, List.not_mem_nil, or_false]
    omega
  obtain ⟨hstaged, hset, hloaded, hmarks, hactive⟩ :=
    foldl_promoteClass (l := [0, 1, 2, 3, 4, 5, 6, 7]) t (by decide) (fun c hc => (hall c).1 hc) hsorted
  refine ⟨hstaged, hset, hloaded, BitVec.eq_of_getLsbD_eq (fun k hk => ?_), fun c hc => ?_⟩
  · refine (hmarks k hk).trans ?_
    rw [decide_eq_false (Classical.not_not.2 ((hall k).2 hk)), Bool.and_false]
    exact BitVec.getLsbD_zero.symm
  · refine (hactive c).trans ?_
    simp only [(hall c).2 hc, true_and]

/-- With no class staged the promotion changes nothing. -/
theorem promote_of_unstaged {t : Tariffs} (h : stagedClasses t = []) : promote t = t := by
  have hmark : ∀ c < 8, ¬ t.marks.getLsbD c = true := by
    intro c hc
    exact List.filter_eq_nil_iff.1 h c (List.mem_range.2 hc)
  have hone : ∀ c < 8, promoteClass t c = t := fun c hc => if_neg (hmark c hc)
  have hfold : ∀ l : List Nat, (∀ c ∈ l, c < 8) → l.foldl promoteClass t = t := by
    intro l
    induction l with
    | nil => exact fun _ => rfl
    | cons c l ih =>
      intro hl
      rw [List.foldl_cons, hone c (hl c List.mem_cons_self)]
      exact ih (fun x hx => hl x (List.mem_cons_of_mem c hx))
  exact hfold _ (by decide)

/-- The promotion of a state's staged tariffs, as one copy and what it reads and writes. -/
theorem State.promoteTariffs_eq (s : State) : s.promoteTariffs =
    if stagedClasses s.charge = [] then (s.withCharge (promote s.charge)).noteReads [.tariffs]
    else ((s.withCharge (promote s.charge)).rewrite
      (.tariffs :: (stagedClasses s.charge).map StorePlace.active)).noteReads
        ((stagedClasses s.charge).map StorePlace.staged) := by
  unfold State.promoteTariffs
  split
  · next h =>
    rw [promote_of_unstaged h]
    rfl
  · rfl

/-- Settles O42: a duplicate, a close during a sweep, and an accepted one with its promotion. -/
theorem periodCloseJudged : Obligations.PeriodCloseJudged := by
  intro h e p s htaken hidle hsorted
  have hexec : exec (.periodClose h e p) s = .next ((s.atFrame h e).takeClose p.toNat) :=
    congrArg Host.Outcome.next (State.hear_beside e htaken hidle
      (ps := [.queue, .charge, .stats, .faults, .parity]) (by simp) (by simp))
  rw [hexec]
  unfold State.takeClose
  refine ⟨fun hp => ?_, fun hp hsweep => ?_, fun hp hsweep => ?_⟩
  · rw [if_pos (show (s.atFrame h e).queue.period = some p.toNat from hp)]
  · rw [if_neg (show ¬ (s.atFrame h e).queue.period = some p.toNat from hp),
      if_pos (show (s.atFrame h e).queue.sweep.isSome = true from hsweep)]
  · intro staged
    have hnosweep : ¬ (s.atFrame h e).queue.sweep.isSome = true := by
      rw [State.atFrame_queue, hsweep]
      exact Bool.false_ne_true
    rw [if_neg (show ¬ (s.atFrame h e).queue.period = some p.toNat from hp), if_neg hnosweep]
    have hcharge : (((s.atFrame h e).acceptClose p.toNat).noteReads [.period]).charge = promote s.charge := by
      rw [State.noteReads_charge, State.acceptClose, State.bump, State.withStats_charge, State.promoteTariffs_eq]
      simp only [State.rewrite_charge, State.withQueue_charge, State.atFrame_charge]
      split <;> simp
    have hqueue : (((s.atFrame h e).acceptClose p.toNat).noteReads [.period]).queue = { s.queue with
        selector := otherBank s.queue.selector, period := some p.toNat, sweep := some ⟨0, 0, false⟩ } := by
      rw [State.noteReads_queue, State.acceptClose, State.bump, State.withStats_queue, State.promoteTariffs_eq]
      split <;> simp
    obtain ⟨hstaged, hset, hloaded, hmarks, hactive⟩ := promote_spec s.charge hsorted
    refine ⟨_, rfl, ?_, hqueue, ?_, ?_, ?_, ?_, ?_, ?_⟩
    · dsimp only
      rw [hcharge, hqueue, State.acceptClose, State.promoteTariffs_eq]
      simp only [State.rewrite_charge, State.withQueue_charge, State.atFrame_charge]
      rfl
    · rw [hcharge]; exact hactive
    · rw [hcharge]; exact hmarks
    · rw [hcharge]; exact hstaged
    · rw [hcharge]; exact hset
    · rw [hcharge]; exact hloaded
    · have hframe : KeptBut [.now, .span] s (s.atFrame h e) := keptBut_atFrame h e
      refine (hframe.mono (by simp)).trans ?_
      simp [State.acceptClose, State.promoteTariffs_eq]

/-! ### Parts that shared operations leave -/

@[simp] theorem State.putSub_queue (s : State) (i : Nat) (r : Subscriber) : (s.putSub i r).queue = s.queue :=
  (by simp : KeptBut [.subs, .faults, .stats, .parity] s (s.putSub i r)) .queue (by simp)

@[simp] theorem State.putSub_span (s : State) (i : Nat) (r : Subscriber) : (s.putSub i r).span = s.span :=
  (by simp : KeptBut [.subs, .faults, .stats, .parity] s (s.putSub i r)) .span (by simp)

@[simp] theorem State.enqueue_store (s : State) (body : RecordBody) : (s.enqueue body).store = s.store :=
  (by simp : KeptBut [.queue, .faults, .stats, .parity] s (s.enqueue body)) .store (by simp)

@[simp] theorem State.enqueue_subs (s : State) (body : RecordBody) : (s.enqueue body).subs = s.subs :=
  (by simp : KeptBut [.queue, .faults, .stats, .parity] s (s.enqueue body)) .subs (by simp)

@[simp] theorem State.addNotice_subs (s : State) (dest : Nat) (body : NoticeBody) :
    (s.addNotice dest body).subs = s.subs :=
  (by simp : KeptBut [.span, .stats] s (s.addNotice dest body)) .subs (by simp)

@[simp] theorem State.addNotice_store (s : State) (dest : Nat) (body : NoticeBody) :
    (s.addNotice dest body).store = s.store :=
  (by simp : KeptBut [.span, .stats] s (s.addNotice dest body)) .store (by simp)

@[simp] theorem State.putSub_store (s : State) (i : Nat) (r : Subscriber) : (s.putSub i r).store = s.store :=
  (by simp : KeptBut [.subs, .faults, .stats, .parity] s (s.putSub i r)) .store (by simp)

@[simp] theorem State.putSub_subs (s : State) (i : Nat) (r : Subscriber) :
    (s.putSub i r).subs = tableSet s.subs Subscriber.vacant i r := by
  simp [State.putSub]

@[simp] theorem State.putMsg_subs (s : State) (slot : Nat) (m : Msg) : (s.putMsg slot m).subs = s.subs :=
  (by simp : KeptBut [.store, .faults, .stats, .parity] s (s.putMsg slot m)) .subs (by simp)

@[simp] theorem State.sub_noteReads (s : State) (l : List StorePlace) (i : Nat) : (s.noteReads l).sub i = s.sub i :=
  State.sub_congr (s.noteReads_subs l) i

@[simp] theorem State.sub_rewrite (s : State) (l : List StorePlace) (i : Nat) : (s.rewrite l).sub i = s.sub i :=
  State.sub_congr (s.rewrite_subs l) i

@[simp] theorem State.sub_relink (s : State) (l : List (Option Nat)) (i : Nat) : (s.relink l).sub i = s.sub i :=
  State.sub_congr (s.relink_subs l) i

@[simp] theorem State.sub_withStore (s : State) (v : MsgStore) (i : Nat) : (s.withStore v).sub i = s.sub i := rfl

@[simp] theorem State.sub_enqueue (s : State) (body : RecordBody) (i : Nat) : (s.enqueue body).sub i = s.sub i :=
  State.sub_congr (s.enqueue_subs body) i

@[simp] theorem State.sub_addNotice (s : State) (dest : Nat) (body : NoticeBody) (i : Nat) :
    (s.addNotice dest body).sub i = s.sub i :=
  State.sub_congr (s.addNotice_subs dest body) i

/-! ### Records entering the queue (R161, R163, R164) -/

/-- A record enters the queue: its number, and what becomes of the send state and the stall timer. -/
theorem State.enqueue_eq (s : State) (body : RecordBody) :
    let becomesHead := s.queue.records = [] ∧ s.unit.engine = .service ∧ s.unit.resetLow = false
    s.enqueue body = State.rewrite { s with queue := { s.queue with
      records := s.queue.records ++ [⟨s.queue.nextNumber, body⟩],
      nextNumber := (s.queue.nextNumber + 1) % 16777216,
      send := if becomesHead then some .ready else s.queue.send,
      stallFrom := if becomesHead then some s.now else s.queue.stallFrom } }
      [.record ((s.queue.head + s.queue.records.length) % 1024), .pointers, .nextNumber] := by
  intro becomesHead
  have hcond : (s.queue.records.isEmpty && s.serving) = true ↔ becomesHead := by
    rw [Bool.and_eq_true, List.isEmpty_iff, s.serving_iff]
  unfold State.enqueue
  dsimp only
  by_cases hhead : becomesHead
  · rw [if_pos (hcond.2 hhead), if_pos hhead, if_pos hhead]
    rfl
  · rw [if_neg (mt hcond.1 hhead), if_neg hhead, if_neg hhead]
    rfl

/-- A record that enters an empty queue in SERVICE is READY. -/
theorem State.enqueue_ready {s : State} (body : RecordBody) (hempty : s.queue.records = [])
    (hserving : s.serving = true) :
    (s.enqueue body).queue.send = some .ready ∧ (s.enqueue body).queue.stallFrom = some s.now := by
  rw [s.enqueue_eq body, State.rewrite_queue]
  exact ⟨if_pos ⟨hempty, (s.serving_iff).1 hserving⟩, if_pos ⟨hempty, (s.serving_iff).1 hserving⟩⟩

/-! ### The period sweep (R168, R169) -/

theorem dueTotal_iff (selector : BankId) (r : Subscriber) : dueTotal selector r = true ↔
    r.state ≠ .vacant ∧ r.plan = .postpaid ∧ (r.mark ≠ selector ∨ bankUsed (bankOf r (otherBank selector)) = true) := by
  simp only [dueTotal, Bool.and_eq_true, Bool.or_eq_true, decide_eq_true_eq, and_assoc]

theorem State.sweepTotal_queue (s : State) (w : Sweep) (r : Subscriber) :
    (s.sweepTotal w r).queue = { (s.enqueue (.periodTotal (s.numberOf w.next) s.periodField .closed false
      (bankOf r (otherBank s.queue.selector)))).queue with
        sweep := some { next := w.next + 1, count := w.count + 1, paused := false } } := by
  simp [State.sweepTotal, State.putSweep]

/-- Settles O43: the record at the sweep is due or not, and the queue below its high mark or not. -/
theorem periodSweepSteps : Obligations.PeriodSweepSteps := by
  intro e s w hengine hreset hsweep hpaused hsorted u r heads closing due period
  have hserving : s.serving = true := (State.serving_iff s).2 ⟨hengine, hreset⟩
  have hstep : exec (.periodSweepStep e) s = .next u.sweepStep := congrArg Host.Outcome.next (if_pos hserving)
  have hend : exec (.periodSweepComplete e) s = .next u.sweepEnd := congrArg Host.Outcome.next (if_pos hserving)
  have hu : u.queue.sweep = some w := hsweep
  have hheads : ∀ body t, t.queue.send = (u.enqueue body).queue.send →
      t.queue.stallFrom = (u.enqueue body).queue.stallFrom → heads t := by
    intro body t hsend hstall
    refine ⟨fun hempty => ?_, fun hnonempty => ?_⟩
    · obtain ⟨hs, hf⟩ := State.enqueue_ready (s := u) body hempty hserving
      exact ⟨hsend.trans hs, hstall.trans hf⟩
    · obtain ⟨hs, hf⟩ := u.enqueue_head body hnonempty
      exact ⟨hsend.trans hs, hstall.trans hf⟩
  rw [hstep, hend]
  have hnext : w.next < 32768 → u.sweepStep =
      (if !dueTotal s.queue.selector r then u.putSweep (some { w with next := w.next + 1 })
        else if s.queue.records.length < s.unit.setup.highMark then u.sweepTotal w r
        else u.pauseSweep w).noteReads
          ([.period, .subscriber w.next] ++ (if dueTotal s.queue.selector r then [.pointers] else [])) := by
    intro hlt
    have hgoes : ¬ (w.paused || decide (Config.subCount ≤ w.next)) = true := by
      rw [hpaused, Bool.false_or, decide_eq_true_eq]
      exact Nat.not_le.2 hlt
    unfold State.sweepStep
    rw [hu]
    dsimp only
    rw [if_neg hgoes]
    rfl
  have hlast : 32768 ≤ w.next → u.sweepEnd =
      (if s.queue.records.length < s.unit.setup.highMark then
        (u.enqueue (.periodDone period w.count)).putSweep none
      else u.pauseSweep w).noteReads [.period, .pointers] := by
    intro hle
    have hgoes : ¬ (w.paused || decide (w.next < Config.subCount)) = true := by
      rw [hpaused, Bool.false_or, decide_eq_true_eq]
      exact Nat.not_lt.2 hle
    unfold State.sweepEnd
    rw [hu]
    dsimp only
    rw [if_neg hgoes]
    rfl
  refine ⟨fun hlt hdue => ?_, fun hlt hdue hroom => ?_, fun hlt hdue hfull => ?_, fun hle hroom => ?_,
    fun hle hfull => ?_⟩
  · have hpassed : dueTotal s.queue.selector r = false := Bool.eq_false_iff.2 (mt (dueTotal_iff _ _).1 hdue)
    rw [hnext hlt, hpassed]
    rfl
  · rw [hnext hlt, (dueTotal_iff _ _).2 hdue]
    simp only [Bool.not_true, Bool.false_eq_true, if_false, if_pos hroom, if_true]
    refine ⟨_, rfl, rfl, hheads (.periodTotal (s.numberOf w.next) period .closed false (bankOf r closing))
      _ ?_ ?_, ?_, ?_,
      ?_, fun i hi => ?_, ?_⟩
    · rw [State.noteReads_queue, State.sweepTotal_queue]
      rfl
    · rw [State.noteReads_queue, State.sweepTotal_queue]
      rfl
    · rw [State.noteReads_queue, State.sweepTotal_queue]
      exact u.enqueue_records _
    · rw [State.noteReads_queue, State.sweepTotal_queue]
    · rw [State.sub_noteReads, State.sweepTotal, State.putSweep, State.sub_rewrite]
      exact State.sub_putSub_same _ _ _ (by rw [State.enqueue_subs]; exact hsorted)
    · rw [State.sub_noteReads, State.sweepTotal, State.putSweep, State.sub_rewrite]
      exact (State.sub_putSub_other _ _ hi).trans (State.sub_enqueue _ _ _)
    · simp [u]
  · rw [hnext hlt, (dueTotal_iff _ _).2 hdue]
    simp only [Bool.not_true, Bool.false_eq_true, if_false, if_neg (Nat.not_lt.2 hfull), if_true]
    rfl
  · rw [hlast hle, if_pos hroom]
    refine ⟨_, rfl, rfl, hheads (.periodDone period w.count) _ ?_ ?_, ?_, ?_, ?_⟩
    · rw [State.noteReads_queue, State.putSweep, State.rewrite_queue, State.withQueue_queue]
    · rw [State.noteReads_queue, State.putSweep, State.rewrite_queue, State.withQueue_queue]
    · rw [State.noteReads_queue, State.putSweep, State.rewrite_queue, State.withQueue_queue]
      exact u.enqueue_records _
    · rw [State.noteReads_queue, State.putSweep, State.rewrite_queue, State.withQueue_queue]
    · simp [u]
  · rw [hlast hle, if_neg (Nat.not_lt.2 hfull)]
    rfl

/-! ### The release of a slot (R78) -/

theorem State.release_store (s : State) (slot : Nat) (m : Msg) (o : NoticeBody) :
    (s.release slot m o).store =
      { s.store with msgs := tableErase s.store.msgs slot, pool := poolPush s.store.pool slot } := by
  simp [State.release]

theorem State.release_queue (s : State) (slot : Nat) (m : Msg) (o : NoticeBody) :
    (s.release slot m o).queue = s.queue :=
  (by simp : KeptBut [.span, .stats, .subs, .store, .intake, .faults, .parity] s (s.release slot m o))
    .queue (by simp)

theorem State.release_span (s : State) (slot : Nat) (m : Msg) (o : NoticeBody) :
    (s.release slot m o).span = (s.addNotice m.origin o).span := by
  simp [State.release]

theorem State.release_runDue (s : State) (slot : Nat) (m : Msg) (o : NoticeBody) :
    (s.release slot m o).intake.runDue = true := rfl

/-- The subscriber of a released message has it off its pending list. -/
theorem State.sub_release {s : State} (slot : Nat) (m : Msg) (o : NoticeBody) (hsorted : tableSorted s.subs = true) :
    (s.release slot m o).sub m.subIndex =
      { s.sub m.subIndex with pendingList := (s.sub m.subIndex).pendingList.erase slot } := by
  have hreleased : (s.release slot m o).subs = ((s.addNotice m.origin o).putSub m.subIndex { s.sub m.subIndex with
      pendingList := (s.sub m.subIndex).pendingList.erase slot }).subs := by
    simp [State.release]
  rw [State.sub_congr hreleased]
  exact State.sub_putSub_same _ _ _ (by rw [State.addNotice_subs]; exact hsorted)

/-- A notice added stands last. -/
theorem State.getLast_addNotice (s : State) (dest : Nat) (body : NoticeBody) :
    (s.addNotice dest body).span.notices.getLast? = some ⟨dest, body, 0⟩ := by
  by_cases hroom : s.span.notices.length < 32
  · rw [s.addNotice_room _ _ hroom, State.withSpan_span, List.getLast?_concat]
  · rw [s.addNotice_full _ _ hroom]
    exact List.getLast?_concat

theorem poolFront_push {p : Pool} {slot : Nat} (h : slot < 8192) : poolFront (poolPush p slot) = some slot := by
  unfold poolPush
  split
  · next hrun =>
    unfold poolFront
    simp only [hrun.1]
    exact if_pos h
  · rfl

/-- A settled message's USAGE record enters the queue and its slot is released. -/
theorem State.queueUsage_eq {s : State} {slot : Nat} {m : Msg} {o : Ending} {f : Serial} {g : Stage} {z : Settlement}
    (hm : s.msg slot = some m) (hstate : m.state = .finishing o f g) (hz : m.settlement = some z) :
    s.queueUsage slot =
      ((s.enqueue (.usage (usageOf m o f z))).release slot m (outcomeOf m o f z)).noteReads [.message slot] := by
  unfold State.queueUsage
  rw [hm]
  dsimp only
  rw [hstate, hz]

/-! ### Settlement (R76, R77, R151, R152) -/

theorem settleSub_prepaid {m : Msg} (hplan : m.basis.plan = .prepaid) (r : Subscriber)
    (selector : BankId) (o : Ending) :
    settleSub r selector m o = { r with
      balance := r.balance + (m.hold - actualCharge m o), held := r.held - m.hold,
      armed := r.armed || decide (r.threshold < r.balance + (m.hold - actualCharge m o)) } := by
  rw [settleSub, hplan]
  exact rearm_eq _

theorem settleSub_postpaid {m : Msg} (hplan : m.basis.plan = .postpaid) (r : Subscriber) (selector : BankId)
    (o : Ending) : settleSub r selector m o =
      putBank r selector (bankAdd (bankOf r selector) (chargedChars m o) m.sends (actualCharge m o)) := by
  rw [settleSub, hplan]

theorem settleSub_pendingList (r : Subscriber) (selector : BankId) (m : Msg) (o : Ending) :
    (settleSub r selector m o).pendingList = r.pendingList := by
  cases hplan : m.basis.plan with
  | prepaid => rw [settleSub_prepaid hplan]
  | postpaid =>
    rw [settleSub_postpaid hplan]
    cases selector <;> rfl

/-- The settlement that a message's record takes. -/
theorem settlementOf_settleSub (r : Subscriber) (selector : BankId) (m : Msg) (o : Ending) :
    settlementOf (settleSub r selector m o) m o = ⟨chargedChars m o, actualCharge m o,
      if m.basis.plan = .prepaid then some (r.balance + (m.hold - actualCharge m o)) else none⟩ := by
  unfold settlementOf
  cases hplan : m.basis.plan with
  | prepaid =>
    rw [settleSub_prepaid hplan]
    rfl
  | postpaid => rfl

/-- A message with its settlement written, before it offers its USAGE record. -/
def settledMsg (m : Msg) (o : Ending) (f : Serial) (z : Settlement) : Msg :=
  { m with state := .finishing o f .queue, settlement := some z }

/-- The state in which a settled message offers its USAGE record. -/
def State.settled (s : State) (slot : Nat) (m : Msg) (o : Ending) (f : Serial) : State :=
  (s.putSub m.subIndex (settleSub (s.sub m.subIndex) s.queue.selector m o)).putMsg slot
    (settledMsg m o f (settlementOf (settleSub (s.sub m.subIndex) s.queue.selector m o) m o))

theorem State.settle_eq {s : State} {slot : Nat} {m : Msg} {o : Ending} {f : Serial} {g : Stage}
    (hm : s.msg slot = some m) (hstate : m.state = .finishing o f g) :
    s.settle slot = ((s.settled slot m o f).offerUsage slot).noteReads (settleReads m) := by
  unfold State.settle
  rw [hm]
  dsimp only
  rw [hstate]
  rfl

theorem keptBut_settled (s : State) (slot : Nat) (m : Msg) (o : Ending) (f : Serial) :
    KeptBut [.subs, .store, .faults, .stats, .parity] s (s.settled slot m o f) := by
  unfold State.settled
  simp

theorem State.settled_store (s : State) (slot : Nat) (m : Msg) (o : Ending) (f : Serial) :
    (s.settled slot m o f).store = { s.store with
      msgs := tablePut s.store.msgs slot (settledMsg m o f
          (settlementOf (settleSub (s.sub m.subIndex) s.queue.selector m o) m o)) } := by
  simp [State.settled]

theorem State.sub_settled {s : State} (slot : Nat) (m : Msg) (o : Ending) (f : Serial)
    (hsorted : tableSorted s.subs = true) :
    (s.settled slot m o f).sub m.subIndex = settleSub (s.sub m.subIndex) s.queue.selector m o := by
  rw [State.settled, State.sub_putMsg, State.sub_putSub_same _ _ _ hsorted]

/-- Settlement with room in the queue and nobody waiting. -/
theorem State.settle_room {s : State} {slot : Nat} {m : Msg} {o : Ending} {f : Serial} {g : Stage}
    (hm : s.msg slot = some m) (hstate : m.state = .finishing o f g) (hroom : s.queue.records.length < 1024)
    (hwait : s.store.waitList = []) :
    let z := settlementOf (settleSub (s.sub m.subIndex) s.queue.selector m o) m o
    s.settle slot =
      (((((s.settled slot m o f).enqueue (.usage (usageOf m o f z))).release slot (settledMsg m o f z)
        (outcomeOf m o f z)).noteReads [.message slot]).noteReads [.waitList, .pointers]).noteReads
          (settleReads m) := by
  intro z
  have hmsg : (s.settled slot m o f).msg slot = some (settledMsg m o f z) := State.msg_putMsg_same _ _ _
  have hqueue : (s.settled slot m o f).queue = s.queue := keptBut_settled s slot m o f .queue (by simp)
  have hoffers : ((s.settled slot m o f).roomFor 1 && (s.settled slot m o f).store.waitList.isEmpty) = true := by
    rw [Bool.and_eq_true, State.roomFor_iff, State.occupancy, hqueue, State.settled_store, hwait]
    exact ⟨hroom, rfl⟩
  rw [State.settle_eq hm hstate, State.offerUsage, if_pos hoffers,
    State.queueUsage_eq (g := .queue) (z := z) hmsg rfl rfl]
  rfl

/-- Settlement without room, or behind others who wait. -/
theorem State.settle_waits {s : State} {slot : Nat} {m : Msg} {o : Ending} {f : Serial} {g : Stage}
    (hm : s.msg slot = some m) (hstate : m.state = .finishing o f g)
    (hfull : 1024 ≤ s.queue.records.length ∨ s.store.waitList ≠ []) :
    s.settle slot = (((((s.settled slot m o f).withStore { (s.settled slot m o f).store with
      waitList := (s.settled slot m o f).store.waitList ++ [slot] }).rewrite [.waitList]).relink
        [(s.settled slot m o f).store.waitList.getLast?]).noteReads [.waitList, .pointers]).noteReads
          (settleReads m) := by
  have hqueue : (s.settled slot m o f).queue = s.queue := keptBut_settled s slot m o f .queue (by simp)
  have hoffers : ¬ ((s.settled slot m o f).roomFor 1 && (s.settled slot m o f).store.waitList.isEmpty) = true := by
    rw [Bool.and_eq_true, State.roomFor_iff, State.occupancy, hqueue, State.settled_store, List.isEmpty_iff]
    rintro ⟨hroom, hnone⟩
    exact hfull.elim (fun h => Nat.not_le.2 hroom h) (fun h => h hnone)
  rw [State.settle_eq hm hstate, State.offerUsage, if_neg hoffers]

/-- What a settlement leaves of the subscriber's record. -/
theorem State.sub_settle {s : State} {slot : Nat} {m : Msg} {o : Ending} {f : Serial} {g : Stage}
    (hm : s.msg slot = some m) (hstate : m.state = .finishing o f g) (hsorted : tableSorted s.subs = true) :
    (s.settle slot).sub m.subIndex = { settleSub (s.sub m.subIndex) s.queue.selector m o with
      pendingList := if s.queue.records.length < 1024 ∧ s.store.waitList = []
        then (s.sub m.subIndex).pendingList.erase slot else (s.sub m.subIndex).pendingList } := by
  have hsettled := State.sub_settled slot m o f hsorted
  by_cases hroom : s.queue.records.length < 1024 ∧ s.store.waitList = []
  · have hsort : tableSorted (s.settled slot m o f).subs = true := by
      rw [State.settled, State.putMsg_subs, State.putSub_subs]
      exact tableSorted_set _ _ _ _ hsorted
    rw [State.settle_room hm hstate hroom.1 hroom.2, if_pos hroom]
    simp only [State.sub_noteReads]
    refine (State.sub_release slot (settledMsg m o f _) _ (by rw [State.enqueue_subs]; exact hsort)).trans ?_
    rw [State.sub_enqueue, show (settledMsg m o f _).subIndex = m.subIndex from rfl, hsettled, settleSub_pendingList]
  · have hfull : 1024 ≤ s.queue.records.length ∨ s.store.waitList ≠ [] := by
      refine Classical.byContradiction fun h => ?_
      obtain ⟨hlen, hwait⟩ := not_or.1 h
      exact hroom ⟨Nat.not_le.1 hlen, Classical.not_not.1 hwait⟩
    rw [State.settle_waits hm hstate hfull, if_neg hroom]
    simp only [State.sub_noteReads, State.sub_relink, State.sub_rewrite, State.sub_withStore]
    rw [hsettled, ← settleSub_pendingList (s.sub m.subIndex) s.queue.selector m o]

/-- Settles O39: the record's entry into the queue, and the settlement with room and without. -/
theorem settlementChargesAndReleases : Obligations.SettlementChargesAndReleases := by
  refine ⟨State.enqueue_eq, fun s slot m o f g hm hstate hslot hsubs hmsgs => ?_⟩
  intro charge r t r1 current settled
  have hr1 : r1 = _ := State.sub_settle hm hstate hsubs
  have hz : settlementOf (settleSub (s.sub m.subIndex) s.queue.selector m o) m o = settled :=
    settlementOf_settleSub _ _ _ _
  have hqueue : (s.settled slot m o f).queue = s.queue := keptBut_settled s slot m o f .queue (by simp)
  refine ⟨fun hplan => ?_, fun hplan => ?_, fun hroom hwait => ?_, fun hfull => ?_, ?_⟩
  · rw [hr1, settleSub_prepaid hplan]
    exact ⟨rfl, rfl, rfl, rfl, rfl⟩
  · rw [hr1, settleSub_postpaid hplan]
    cases hsel : s.queue.selector <;> exact ⟨rfl, rfl, rfl, rfl, by simp only [current, hsel]; rfl⟩
  · have ht : t = _ := State.settle_room hm hstate hroom hwait
    rw [hz] at ht
    have htqueue : t.queue = ((s.settled slot m o f).enqueue (.usage (usageOf m o f settled))).queue := by
      rw [ht, State.noteReads_queue, State.noteReads_queue, State.noteReads_queue, State.release_queue]
    have htstore : t.store = { (s.settled slot m o f).store with
        msgs := tableErase (s.settled slot m o f).store.msgs slot,
        pool := poolPush (s.settled slot m o f).store.pool slot } := by
      rw [ht, State.noteReads_store, State.noteReads_store, State.noteReads_store,
      State.release_store, State.enqueue_store]
    refine ⟨?_, ?_, fun hempty hengine hreset => ?_, fun hnonempty => ?_, ?_, ?_, ?_, ?_, ?_⟩
    · rw [htqueue, State.enqueue_records, hqueue]
    · rw [htqueue, State.enqueue_nextNumber, hqueue]
    · rw [htqueue]
      have hnow : (s.settled slot m o f).now = s.now := keptBut_settled s slot m o f .now (by simp)
      have hunit : (s.settled slot m o f).unit = s.unit := keptBut_settled s slot m o f .unit (by simp)
      rw [← hnow]
      exact State.enqueue_ready _ (by rw [hqueue, hempty])
        ((State.serving_iff _).2 ⟨by rw [hunit, hengine], by rw [hunit, hreset]⟩)
    · rw [htqueue, ← hqueue]
      exact State.enqueue_head _ _ (by rw [hqueue]; exact hnonempty)
    · rw [State.msg, htstore]
      refine tableFind_erase_same _ _ ?_
      rw [State.settled_store]
      exact tableSorted_put _ _ _ hmsgs
    · rw [htstore]
      exact poolFront_push hslot
    · rw [hr1]
      exact if_pos ⟨hroom, hwait⟩
    · rw [ht, State.noteReads_intake, State.noteReads_intake, State.noteReads_intake, State.release_runDue]
    · rw [ht, State.noteReads_span, State.noteReads_span, State.noteReads_span, State.release_span]
      exact State.getLast_addNotice _ _ _
  · have ht : t = _ := State.settle_waits hm hstate hfull
    refine ⟨?_, ?_, ?_, ?_, ?_, ?_⟩
    · rw [ht]
      simp [hqueue]
    · rw [ht]
      simp [State.settled_store]
    · rw [ht]
      simp [State.msg, State.settled_store, tableFind_put_same, settledMsg, hz]
    · rw [hr1]
      exact if_neg (fun h => hfull.elim (Nat.not_le.2 h.1) (fun hw => hw h.2))
    · rw [ht]
      simp only [State.noteReads_span, State.relink_span, State.rewrite_span, State.withStore_span]
      exact keptBut_settled s slot m o f .span (by simp)
    · rw [ht]
      simp only [State.noteReads_intake, State.relink_intake, State.rewrite_intake, State.withStore_intake]
      exact keptBut_settled s slot m o f .intake (by simp)
  · simp [t]

/-! ### The finishing wait list (R77) -/

/-- A waiter that is settled and whose settlement is written. -/
def State.waits (s : State) (slot : Nat) : Prop :=
  ∃ m o f g z, s.msg slot = some m ∧ m.state = .finishing o f g ∧ m.settlement = some z

/-- The head of the wait list offers its record. -/
def State.headServed (s : State) (slot : Nat) (rest : List Nat) : State :=
  ((s.withStore { s.store with waitList := rest }).rewrite [.waitList]).queueUsage slot

/-- What the serving of one waiter does. -/
theorem State.headServed_spec {s : State} {slot : Nat} (rest : List Nat) {m : Msg} {o : Ending} {f : Serial} {g : Stage}
    {z : Settlement} (hm : s.msg slot = some m) (hstate : m.state = .finishing o f g) (hz : m.settlement = some z) :
    (s.headServed slot rest).queue.records = s.queue.records ++ [⟨s.queue.nextNumber, .usage (usageOf m o f z)⟩] ∧
      (s.headServed slot rest).store = { s.store with
        waitList := rest, msgs := tableErase s.store.msgs slot, pool := poolPush s.store.pool slot } := by
  have hm' : ((s.withStore { s.store with waitList := rest }).rewrite [.waitList]).msg slot = some m := by
    rw [State.msg, State.rewrite_store]
    exact hm
  rw [State.headServed, State.queueUsage_eq hm' hstate hz]
  refine ⟨?_, ?_⟩
  · rw [State.noteReads_queue, State.release_queue, State.enqueue_records, State.rewrite_queue]
    rfl
  · rw [State.noteReads_store, State.release_store]
    rw [State.enqueue_store, State.rewrite_store]
    rfl

/-- What the serving of a wait list does: waiters leave its head while the queue has room. -/
theorem State.serveWaiters_spec {l : List Nat} (s : State) (hl : s.store.waitList = l)
    (hsorted : tableSorted s.store.msgs = true) (hlen : s.queue.records.length ≤ 1024) (hnodup : l.Nodup)
    (hwaits : ∀ slot ∈ l, s.waits slot) :
    let t := State.serveWaiters l.length s
    let k := min (1024 - s.queue.records.length) l.length
    t.store.waitList = l.drop k ∧ t.store.serveDue = s.store.serveDue ∧
      (∃ added, t.queue.records = s.queue.records ++ added ∧ added.length = k ∧
        ∀ i slot m o f g z, i < k → l[i]? = some slot → s.msg slot = some m → m.state = .finishing o f g →
          m.settlement = some z → (added[i]?).map Record.body = some (.usage (usageOf m o f z))) ∧
      (∀ slot ∈ l.take k, t.msg slot = none) ∧ ∀ slot, slot ∉ l.take k → t.msg slot = s.msg slot := by
  induction l generalizing s with
  | nil => 
    intro t k
    have hk : k = 0 := Nat.min_zero _
    have ht : t = s := rfl
    rw [hk, ht]
    exact ⟨hl, rfl, ⟨[], (List.append_nil _).symm, rfl, fun i _ _ _ _ _ _ hi => absurd hi (Nat.not_lt_zero i)⟩,
      fun _ h => absurd h List.not_mem_nil, fun _ _ => rfl⟩
  | cons head rest ih =>
    intro t k
    by_cases hroom : s.queue.records.length < 1024
    · obtain ⟨m, o, f, g, z, hm, hstate, hz⟩ := hwaits head List.mem_cons_self
      obtain ⟨hrecords, hstore⟩ := State.headServed_spec rest hm hstate hz
      have hroom1 : s.roomFor 1 = true := (s.roomFor_iff 1).2 hroom
      have ht : t = State.serveWaiters rest.length (s.headServed head rest) := by
        show State.serveWaiters (rest.length + 1) s = _
        rw [State.serveWaiters, hl]
        dsimp only
        rw [if_pos hroom1]
        rfl
      obtain ⟨hhead, hrest⟩ := List.nodup_cons.1 hnodup
      have hmsg : ∀ slot, slot ≠ head → (s.headServed head rest).msg slot = s.msg slot := by
        intro slot hslot
        rw [State.msg, hstore]
        exact tableFind_erase_other _ hslot
      have hgone : (s.headServed head rest).msg head = none := by
        rw [State.msg, hstore]
        exact tableFind_erase_same _ _ hsorted
      have hother : ∀ slot ∈ rest, slot ≠ head := fun slot hslot heq => hhead (heq ▸ hslot)
      have hlen' : (s.headServed head rest).queue.records.length = s.queue.records.length + 1 := by
        rw [hrecords, List.length_append]
        rfl
      obtain ⟨hlist, hdue, ⟨added, hadded, hcount, husage⟩, hserved, hkept⟩ := ih (s.headServed head rest)
        (by rw [hstore]) (by rw [hstore]; exact tableSorted_erase _ _ hsorted) (by rw [hlen']; exact hroom) hrest
        (fun slot hslot => by
          unfold State.waits
          rw [hmsg slot (hother slot hslot)]
          exact hwaits slot (List.mem_cons_of_mem _ hslot))
      have hk : k = min (1024 - (s.headServed head rest).queue.records.length) rest.length + 1 := by
        rw [hlen']
        simp only [k, List.length_cons]
        omega
      rw [ht, hk]
      generalize min (1024 - (s.headServed head rest).queue.records.length) rest.length = j at *
      refine ⟨hlist, ?_, ⟨⟨s.queue.nextNumber, .usage (usageOf m o f z)⟩ :: added, ?_, ?_, ?_⟩, ?_, ?_⟩
      · rw [hdue, hstore]
      · rw [hadded, hrecords, List.append_assoc]
        rfl
      · rw [List.length_cons, hcount]
      · intro i slot m' o' f' g' z' hi hslot hm' hstate' hz'
        cases i with
        | zero =>
          have heq : head = slot := by simpa using hslot
          subst heq
          cases hm.symm.trans hm'
          cases hstate.symm.trans hstate'
          cases hz.symm.trans hz'
          rfl
        | succ i =>
          have hslot' : rest[i]? = some slot := hslot
          exact husage i slot m' o' f' g' z' (Nat.lt_of_succ_lt_succ hi) hslot'
            (by rw [hmsg slot (hother slot (List.mem_of_getElem? hslot')), hm']) hstate' hz'
      · intro slot hslot
        by_cases hin : slot ∈ rest.take j
        · exact hserved slot hin
        · have heq : slot = head := (List.mem_cons.1 (by rwa [List.take_succ_cons] at hslot)).resolve_right hin
          rw [hkept slot hin, heq]
          exact hgone
      · intro slot hslot
        rw [List.take_succ_cons, List.mem_cons, not_or] at hslot
        rw [hkept slot hslot.2, hmsg slot hslot.1]
    · have hk : k = 0 := by
        simp only [k]
        omega
      have hfull : ¬ s.roomFor 1 = true := fun h => hroom ((s.roomFor_iff 1).1 h)
      have ht : t = s := by
        show State.serveWaiters (rest.length + 1) s = s
        rw [State.serveWaiters, hl]
        dsimp only
        rw [if_neg hfull]
      rw [hk, ht]
      exact ⟨hl, rfl, ⟨[], (List.append_nil _).symm, rfl, fun i _ _ _ _ _ _ hi => absurd hi (Nat.not_lt_zero i)⟩,
        fun _ h => absurd h List.not_mem_nil, fun _ _ => rfl⟩

/-- Settles O44: a spent report serves the list by `State.serveWaiters_spec`. -/
theorem waitListServedInOrder : Obligations.WaitListServedInOrder := by
  refine ⟨fun e s hengine hreset hdue => ?_, fun e s hengine hreset hdue hsorted hlen hnodup hwaits => ?_⟩
  · have hserving : s.serving = true := (State.serving_iff s).2 ⟨hengine, hreset⟩
    refine congrArg Host.Outcome.next ((if_pos hserving).trans ?_)
    exact if_neg (by rw [show (s.advance e.moment).store.serveDue = false from hdue]; exact Bool.false_ne_true)
  · intro k
    have hserving : s.serving = true := (State.serving_iff s).2 ⟨hengine, hreset⟩
    let u := (s.advance e.moment).withStore { s.store with serveDue := false }
    have hexec : exec (.waitListServe e) s =
        .next ((State.serveWaiters s.store.waitList.length u).noteReads [.waitList, .pointers]) :=
      congrArg Host.Outcome.next ((if_pos hserving).trans (if_pos hdue))
    obtain ⟨hlist, hspent, ⟨added, hadded, hcount, husage⟩, hserved, hkept⟩ :=
      State.serveWaiters_spec (l := s.store.waitList) u rfl hsorted hlen hnodup hwaits
    refine ⟨_, hexec, ?_, ?_, ?_, ?_, fun i slot m o f g z hi hslot hm hstate hz => ⟨?_, ?_⟩, fun slot hslot => ?_, ?_⟩
    · rw [State.noteReads_store, hspent]
      rfl
    · rw [State.noteReads_store, hlist]
      rfl
    · rw [State.noteReads_queue, hadded, List.length_append, hcount]
      rfl
    · rw [State.noteReads_queue, hadded]
      exact List.take_left
    · rw [State.msg_noteReads]
      exact hserved slot (List.mem_of_getElem? ((List.getElem?_take_of_lt hi).trans hslot))
    · rw [State.noteReads_queue, hadded]
      rw [show u.queue.records = s.queue.records from rfl, List.getElem?_append_right (Nat.le_add_right _ _),
        Nat.add_sub_cancel_left]
      exact husage i slot m o f g z hi hslot hm hstate hz
    · rw [State.msg_noteReads]
      exact hkept slot hslot
    · simp [u]

end Sys2Proof.Machine
end

section
/-! Marks, coasts and losses (R88 to R93): what the windows' resolving, opening and voiding leave of the Claim Builder
(R99 to R101), and what an abandonment counts. -/

namespace Sys2Proof.Machine

/-! ### What is counted and latched by the rules that drop an item -/

/-- The change does not count a spilled item, and clears no cause. -/
structure Noted (s t : State) : Prop where
  spilled : t.stat .itemsSpilled = s.stat .itemsSpilled
  latched : ∀ c, causesHas s.faults.causes c = true → causesHas t.faults.causes c = true

/-- The parts beside the statistics and the faults. -/
def quietParts : List Part :=
  [.pending, .now, .unit, .span, .subs, .intake, .store, .clock, .claims, .tracker, .charge, .queue, .parity]

namespace Noted

theorem refl (s : State) : Noted s s := ⟨rfl, fun _ => id⟩

theorem trans {s t u : State} (h : Noted s t) (k : Noted t u) : Noted s u :=
  ⟨k.spilled.trans h.spilled, fun c hc => k.latched c (h.latched c hc)⟩

variable {s t : State}

theorem quiet (h : Noted s t) {u : State} (k : KeptBut quietParts t u) : Noted s u := by
  have hstats : u.stats = t.stats := k .stats (by simp [quietParts])
  have hfaults : u.faults = t.faults := k .faults (by simp [quietParts])
  exact h.trans ⟨by rw [State.stat, hstats]; rfl, fun c hc => by rwa [hfaults]⟩

theorem ite {c : Prop} [Decidable c] {a b : State} (ha : Noted s a) (hb : Noted s b) :
    Noted s (if c then a else b) := by
  split
  · exact ha
  · exact hb

theorem foldl {α : Type} {f : State → α → State} {s : State} (hf : ∀ t x, Noted s t → Noted s (f t x)) (l : List α)
    {t : State} (h : Noted s t) : Noted s (l.foldl f t) := by
  induction l generalizing t with
  | nil => exact h
  | cons x l ih => exact ih (hf t x h)

theorem withTracker (h : Noted s t) (v : Tracker) : Noted s (t.withTracker v) := h.quiet (by simp [quietParts])

theorem withStore (h : Noted s t) (v : MsgStore) : Noted s (t.withStore v) := h.quiet (by simp [quietParts])

theorem withClaims (h : Noted s t) (v : ClaimBuilder) : Noted s (t.withClaims v) := h.quiet (by simp [quietParts])

theorem withQueue (h : Noted s t) (v : RecordQueue) : Noted s (t.withQueue v) := h.quiet (by simp [quietParts])

theorem withSpan (h : Noted s t) (v : SpanPort) : Noted s (t.withSpan v) := h.quiet (by simp [quietParts])

theorem withIntake (h : Noted s t) (v : Intake) : Noted s (t.withIntake v) := h.quiet (by simp [quietParts])

theorem withSubs (h : Noted s t) (v : Table Subscriber) : Noted s (t.withSubs v) := h.quiet (by simp [quietParts])

theorem wakeAt (h : Noted s t) (window : Nat) : Noted s (t.wakeAt window) := h.quiet (by simp [quietParts])

theorem cursorMoved (h : Noted s t) (f : Feed) : Noted s (t.cursorMoved f) := h.quiet (by simp [quietParts])

theorem removeEntry (h : Noted s t) (slot : Nat) : Noted s (t.removeEntry slot) := h.quiet (by simp [quietParts])

theorem releaseReservation (h : Noted s t) (slot : Nat) : Noted s (t.releaseReservation slot) :=
  h.quiet (by simp [quietParts])

theorem bump (h : Noted s t) (c : Stat) (hc : .itemsSpilled ≠ c := by decide) : Noted s (t.bump c) :=
  h.trans ⟨State.stat_bump_other t hc, fun _ => id⟩

theorem latch (h : Noted s t) (c : Cause) : Noted s (t.latch c) := by
  have hcount : Stat.itemsSpilled ≠ latchStat c := by cases c <;> decide
  refine h.trans ⟨State.stat_latch_other t hcount, fun d hd => ?_⟩
  rw [(t.latch_eq c).1, causesHas_latch, hd, Bool.or_true]

theorem noteReads (h : Noted s t) (places : List StorePlace) : Noted s (t.noteReads places) := by
  refine foldl (fun u a k => ?_) _ h
  unfold State.parityError
  exact .ite (((k.latch .storeParity).bump .storeErrors).trans ⟨rfl, fun _ => id⟩) k

theorem rewrite (h : Noted s t) (places : List StorePlace) : Noted s (t.rewrite places) :=
  (h.noteReads (places.filter StorePlace.readFirst)).trans ⟨rfl, fun _ => id⟩

theorem relink (h : Noted s t) (slots : List (Option Nat)) : Noted s (t.relink slots) := h.rewrite _

theorem putMsg (h : Noted s t) (slot : Nat) (m : Msg) : Noted s (t.putMsg slot m) :=
  (h.withStore _).rewrite _

theorem putSub (h : Noted s t) (index : Nat) (r : Subscriber) : Noted s (t.putSub index r) :=
  (h.withSubs _).rewrite _

theorem putDue (h : Noted s t) (key : Nat) (l : List Nat) : Noted s (t.putDue key l) :=
  .ite (h.withStore _) ((h.withStore _).rewrite _)

theorem leaveDue (h : Noted s t) (slot : Nat) : Noted s (t.leaveDue slot) := by
  unfold State.leaveDue
  split
  · exact h
  · split
    · exact h
    · have k (key l m links) : Noted s (((t.putDue key l).putMsg slot m).relink links) :=
        ((h.putDue _ _).putMsg _ _).relink _
      exact .ite (((k _ _ _ _).withStore _).cursorMoved _) (k _ _ _ _)

theorem enqueue (h : Noted s t) (body : RecordBody) : Noted s (t.enqueue body) :=
  rewrite (.ite (h.withQueue _) (h.withQueue _)) _

theorem addNotice (h : Noted s t) (dest : Nat) (body : NoticeBody) : Noted s (t.addNotice dest body) :=
  .ite (h.withSpan _) ((h.withSpan _).bump _)

theorem release (h : Noted s t) (slot : Nat) (m : Msg) (o : NoticeBody) : Noted s (t.release slot m o) :=
  (((((h.addNotice _ _).putSub _ _).relink _).withStore _).rewrite _).withIntake _

theorem queueUsage (h : Noted s t) (slot : Nat) : Noted s (t.queueUsage slot) := by
  refine noteReads ?_ _
  split
  · split
    · exact (h.enqueue _).release _ _ _
    · exact h
  · exact h

theorem offerUsage (h : Noted s t) (slot : Nat) : Noted s (t.offerUsage slot) :=
  noteReads (.ite (h.queueUsage slot) (((h.withStore _).rewrite _).relink _)) _

theorem settle (h : Noted s t) (slot : Nat) : Noted s (t.settle slot) := by
  unfold State.settle
  split
  · split
    · exact (((h.putSub _ _).putMsg _ _).offerUsage _).noteReads _
    · exact h
  · exact h

theorem finishUnlinked (h : Noted s t) (slot : Nat) (m : Msg) (ending : Ending) :
    Noted s (t.finishUnlinked slot m ending) :=
  ((((h.putMsg _ _).removeEntry slot).leaveDue slot).noteReads _).settle slot

theorem revert (h : Noted s t) (slot : Nat) : Noted s (t.revert slot) := by
  unfold State.revert
  split
  · exact h
  · dsimp only
    split
    · exact (h.putMsg _ _).wakeAt _
    · exact (h.putMsg _ _).wakeAt _
    · exact .ite (h.finishUnlinked _ _ _) ((h.putMsg _ _).wakeAt _)
    · exact h.putMsg _ _
    · exact (h.putMsg _ _).settle _
    · exact h.putMsg _ _

theorem dropItem (h : Noted s t) (i : Item) : Noted s (t.dropItem i) :=
  (revert (.ite (h.releaseReservation _) h) _).noteReads _

theorem abandon (h : Noted s t) : Noted s t.abandon := by
  have hwork (c : Composition) : Noted s (t.abandonWork c) :=
    (foldl (fun _ i k => k.dropItem i) c.items h).trans ⟨rfl, fun _ => id⟩
  unfold State.abandon
  split
  · exact hwork _
  · exact (hwork _).bump _
  · exact h

theorem voidClaim (h : Noted s t) (c : ClaimRec) : Noted s (t.voidClaim c) :=
  .ite h ((foldl (fun _ i k => k.dropItem i) c.items h).bump _)

theorem voidAll (h : Noted s t) : Noted s t.voidAll :=
  (foldl (fun _ c k => k.voidClaim c) _ h.abandon).trans ⟨rfl, fun _ => id⟩

theorem testStart (h : Noted s t) : Noted s t.testStart := by
  unfold State.testStart
  refine .ite ?_ h
  have k := h.withClaims { t.claims with startTest := false }
  dsimp only
  split
  · exact .ite (((k.withClaims _).withStore _).noteReads _) k
  · exact k

end Noted

/-! ### Resolving the windows of a serial (step 1 of R99 and R100) -/

/-- A treatment of claim records that keeps what the rules about messages keep. -/
def ClaimWise (one : State → ClaimRec → State) : Prop :=
  ∀ {u v : State} (c : ClaimRec), ClaimsKept u v → ClaimsKept u (one v c)

theorem ClaimWise.foldl {one : State → ClaimRec → State} (hone : ClaimWise one) (l : List ClaimRec) (s : State) :
    ClaimsKept s (l.foldl one s) :=
  ClaimsKept.foldl (fun _ c k => hone c k) l (.refl s)

theorem claimWise_missingCarried (n : Serial) : ClaimWise (State.missingCarried n) := fun c k => k.missingCarried n c

theorem claimWise_missingSpilled : ClaimWise State.missingSpilled := fun c k => k.missingSpilled c

/-- The CLOSED record of a serial, resolved and freed. -/
def State.resolveClosed (s : State) (n : Serial) (one : State → ClaimRec → State) : State :=
  match s.claims.closedWin with
  | some w =>
    if w.serial = n then
      (w.claims.foldl one s).withClaims { (w.claims.foldl one s).claims with closedWin := none }
    else s
  | none => s

/-- The OPEN record of a serial, its work abandoned, resolved and freed. -/
def State.resolveOpen (s : State) (n : Serial) (one : State → ClaimRec → State) : State :=
  match s.claims.openWin with
  | some w =>
    if w.serial = n then
      (w.claims.foldl one s.abandon).withClaims { (w.claims.foldl one s.abandon).claims with openWin := none }
    else s
  | none => s

theorem State.resolveAt_eq (s : State) (n : Serial) (one : State → ClaimRec → State) :
    s.resolveAt n one = (s.resolveClosed n one).resolveOpen n one := rfl

theorem State.resolveClosed_other {s : State} {n : Serial} {one : State → ClaimRec → State}
    (h : ∀ w, s.claims.closedWin = some w → w.serial ≠ n) : s.resolveClosed n one = s := by
  unfold State.resolveClosed
  split
  · next w hw => exact if_neg (h w hw)
  · rfl

theorem State.resolveOpen_other {s : State} {n : Serial} {one : State → ClaimRec → State}
    (h : ∀ w, s.claims.openWin = some w → w.serial ≠ n) : s.resolveOpen n one = s := by
  unfold State.resolveOpen
  split
  · next w hw => exact if_neg (h w hw)
  · rfl

theorem State.resolveClosed_same {s : State} {n : Serial} {one : State → ClaimRec → State} {w : WindowRec}
    (hw : s.claims.closedWin = some w) (hn : w.serial = n) :
    s.resolveClosed n one =
      (w.claims.foldl one s).withClaims { (w.claims.foldl one s).claims with closedWin := none } := by
  unfold State.resolveClosed
  rw [hw]
  exact if_pos hn

theorem State.resolveOpen_same {s : State} {n : Serial} {one : State → ClaimRec → State} {w : WindowRec}
    (hw : s.claims.openWin = some w) (hn : w.serial = n) :
    s.resolveOpen n one =
      (w.claims.foldl one s.abandon).withClaims { (w.claims.foldl one s.abandon).claims with openWin := none } := by
  unfold State.resolveOpen
  rw [hw]
  exact if_pos hn

theorem State.resolveAt_closed {s : State} {n : Serial} {one : State → ClaimRec → State} (hone : ClaimWise one)
    {w : WindowRec} (hw : s.claims.closedWin = some w) (hn : w.serial = n)
    (hopen : ∀ x, s.claims.openWin = some x → x.serial ≠ n) :
    s.resolveAt n one =
      (w.claims.foldl one s).withClaims { (w.claims.foldl one s).claims with closedWin := none } := by
  rw [State.resolveAt_eq, State.resolveClosed_same hw hn]
  exact State.resolveOpen_other (fun x hx => hopen x ((hone.foldl w.claims s).openWin.symm.trans hx))

theorem State.resolveAt_open {s : State} {n : Serial} {one : State → ClaimRec → State} {w : WindowRec}
    (hw : s.claims.openWin = some w) (hn : w.serial = n) (hclosed : ∀ x, s.claims.closedWin = some x → x.serial ≠ n) :
    s.resolveAt n one =
      (w.claims.foldl one s.abandon).withClaims { (w.claims.foldl one s.abandon).claims with openWin := none } := by
  rw [State.resolveAt_eq, State.resolveClosed_other hclosed, State.resolveOpen_same hw hn]

theorem State.resolveAt_other {s : State} {n : Serial} {one : State → ClaimRec → State}
    (h : ∀ x, s.claims.openWin = some x ∨ s.claims.closedWin = some x → x.serial ≠ n) : s.resolveAt n one = s := by
  rw [State.resolveAt_eq, State.resolveClosed_other (fun x hx => h x (.inr hx)),
    State.resolveOpen_other (fun x hx => h x (.inl hx))]

/-- What the resolving of a serial's windows leaves of the Claim Builder. -/
structure Resolved (n : Serial) (s t : State) : Prop where
  clock : t.clock = s.clock
  openWin : t.claims.openWin = s.claims.openWin.filter (fun w => w.serial ≠ n)
  closedWin : t.claims.closedWin = s.claims.closedWin.filter (fun w => w.serial ≠ n)
  fill : t.claims.fill = s.claims.fill
  slot : s.claims.slot.busy = false → t.claims.slot = s.claims.slot
  unsent : s.claims.slot ≠ .sent → t.claims.slot ≠ .sent
  freed : ∀ w, s.claims.openWin = some w → w.serial = n → t.claims.slot.busy = false

theorem filter_of_serial {n : Serial} {o : Option WindowRec} {w : WindowRec} (hw : o = some w) (hn : w.serial = n) :
    o.filter (fun w => w.serial ≠ n) = none := by simp [hw, hn]

theorem filter_of_other {n : Serial} {o : Option WindowRec} (h : ∀ w, o = some w → w.serial ≠ n) :
    o.filter (fun w => w.serial ≠ n) = o := by
  cases o with
  | none => rfl
  | some w => simp [h w rfl]

theorem State.resolveClosed_kept {one : State → ClaimRec → State} (hone : ClaimWise one) (s : State) (n : Serial) :
    ∃ v, ClaimsKept s v ∧ s.resolveClosed n one = v.withClaims { v.claims with
      closedWin := s.claims.closedWin.filter (fun w => w.serial ≠ n) } := by
  by_cases h : ∃ w, s.claims.closedWin = some w ∧ w.serial = n
  · obtain ⟨w, hw, hn⟩ := h
    exact ⟨_, hone.foldl w.claims s, by rw [State.resolveClosed_same hw hn, filter_of_serial hw hn]⟩
  · have hother : ∀ w, s.claims.closedWin = some w → w.serial ≠ n := fun w hw hn => h ⟨w, hw, hn⟩
    exact ⟨s, .refl s, by rw [State.resolveClosed_other hother, filter_of_other hother]; rfl⟩

theorem State.resolveOpen_kept {one : State → ClaimRec → State} (hone : ClaimWise one) (s : State) (n : Serial) :
    ∃ v, ClaimsKept s v ∧ (∀ w, s.claims.openWin = some w → w.serial = n → v.claims.slot.busy = false) ∧
      s.resolveOpen n one = v.withClaims { v.claims with
        openWin := s.claims.openWin.filter (fun w => w.serial ≠ n) } := by
  by_cases h : ∃ w, s.claims.openWin = some w ∧ w.serial = n
  · obtain ⟨w, hw, hn⟩ := h
    refine ⟨_, (ClaimsKept.refl s).abandon.trans (hone.foldl w.claims s.abandon), fun _ _ _ => ?_, ?_⟩
    · exact (hone.foldl w.claims s.abandon).free s.abandon_free
    · rw [State.resolveOpen_same hw hn, filter_of_serial hw hn]
  · have hother : ∀ w, s.claims.openWin = some w → w.serial ≠ n := fun w hw hn => h ⟨w, hw, hn⟩
    exact ⟨s, .refl s, fun w hw hn => absurd hn (hother w hw),
      by rw [State.resolveOpen_other hother, filter_of_other hother]; rfl⟩

theorem State.resolved_resolveAt {one : State → ClaimRec → State} (hone : ClaimWise one) (s : State) (n : Serial) :
    Resolved n s (s.resolveAt n one) := by
  obtain ⟨v, hv, hclosed⟩ := State.resolveClosed_kept hone s n
  obtain ⟨x, hx, hfreed, hopen⟩ := State.resolveOpen_kept hone (s.resolveClosed n one) n
  have hs : (s.resolveClosed n one).claims.openWin = s.claims.openWin := by
    rw [hclosed]
    exact hv.openWin
  have hslot : (s.resolveClosed n one).claims.slot = v.claims.slot := by rw [hclosed]; rfl
  rw [State.resolveAt_eq]
  refine ⟨?_, ?_, ?_, ?_, fun hb => ?_, fun hu => ?_, fun w hw hn => ?_⟩
  · rw [hopen, State.withClaims_clock, hx.clock, hclosed, State.withClaims_clock, hv.clock]
  · rw [hopen, State.withClaims_claims, hs]
  · rw [hopen]
    exact hx.closedWin.trans (by rw [hclosed]; rfl)
  · rw [hopen]
    exact hx.fill.trans (by rw [hclosed]; exact hv.fill)
  · rw [hopen]
    have hfree : (s.resolveClosed n one).claims.slot = s.claims.slot := hslot.trans (hv.slot hb)
    exact (hx.slot (by rw [hfree]; exact hb)).trans hfree
  · rw [hopen]
    exact hx.unsent (by rw [hslot]; exact hv.unsent hu)
  · rw [hopen]
    exact hfreed w (hs.trans hw) hn

/-! ### Closing and opening a window (steps 2 and 3 of R99) -/

theorem State.closeAt_same {s : State} {w : WindowRec} {n : Serial} (hw : s.claims.openWin = some w)
    (hn : w.serial = n) : s.closeAt n =
      s.abandon.withClaims { s.abandon.claims with openWin := none, closedWin := some w } := by
  unfold State.closeAt
  rw [hw]
  exact if_pos hn

theorem State.closeAt_other {s : State} {n : Serial} (h : ∀ w, s.claims.openWin = some w → w.serial ≠ n) :
    s.closeAt n = s := by
  unfold State.closeAt
  split
  · next w hw => exact if_neg (h w hw)
  · rfl

/-- The state an opening leaves before its walk. -/
def State.opened (s : State) (air : AirTime) (n : Serial) (plan : AirPlan) : State :=
  s.withClaims { s.claims with
    openWin := some { air := air, serial := n, plan := plan, sent := 0, claims := [] },
    fill := zonesZero, arbiter := Arbiter.clear, blocked := [] }

theorem State.openWindow_eq (s : State) (air : AirTime) (n : Serial) (plan : AirPlan) :
    s.openWindow air n plan = ((s.opened air n plan).openingWalk air.window n).withClaims
      { ((s.opened air n plan).openingWalk air.window n).claims with startTest := true } := by
  unfold State.openWindow State.opened
  dsimp only

/-- An opening's walk keeps what the rules about messages keep. -/
theorem State.openWindow_kept (s : State) (air : AirTime) (n : Serial) (plan : AirPlan) :
    ∃ v, ClaimsKept (s.opened air n plan) v ∧
      s.openWindow air n plan = v.withClaims { v.claims with startTest := true } :=
  ⟨_, (ClaimsKept.refl _).openingWalk air.window n, s.openWindow_eq air n plan⟩

/-- The expiry test of the opening walk (R73). -/
theorem State.expireUnclaimed_eq {s : State} {slot : Nat} {m : Msg} (n : Serial) (hm : s.msg slot = some m) :
    s.expireUnclaimed n slot =
      (if (m.state = .queued ∨ ∃ nb, m.state = .resting nb) ∧ m.link = none ∧
          s.unit.setup.lifetime * 75 ≤ (n - m.accepted).toNat then s.finish slot .expired else s).noteReads
        [.message slot] := by
  have htest : (claimable m && m.link.isNone && pastLifetime s.unit.setup m n) = true ↔
      (m.state = .queued ∨ ∃ nb, m.state = .resting nb) ∧ m.link = none ∧
        s.unit.setup.lifetime * 75 ≤ (n - m.accepted).toNat := by
    rw [Bool.and_eq_true, Bool.and_eq_true, claimable_iff, Option.isNone_iff_eq_none, pastLifetime, decide_eq_true_iff,
      and_assoc]
    rfl
  unfold State.expireUnclaimed
  rw [hm]
  dsimp only
  simp only [htest]

theorem State.expireUnclaimed_free {s : State} {slot : Nat} (n : Serial) (hm : s.msg slot = none) :
    s.expireUnclaimed n slot = s.noteReads [.message slot] := by
  unfold State.expireUnclaimed
  rw [hm]

/-! ### The test of R103 -/

/-- The conditions of R103. -/
theorem State.mayCompose_iff (s : State) (w : WindowRec) : s.mayCompose w = true ↔
    s.clock.state = .tracking ∧ (s.claims.slot = .idle ∨ s.claims.slot = .waiting) ∧ w.sent < 16 := by
  rw [State.mayCompose, Bool.and_eq_true, Bool.and_eq_true, decide_eq_true_iff, decide_eq_true_iff, decide_eq_true_iff,
    and_assoc]
  rfl

theorem State.testStart_fails {s : State} (htest : s.claims.startTest = true)
    (h : ∀ w, s.claims.openWin = some w → ¬ s.mayCompose w = true) :
    s.testStart = s.withClaims { s.claims with startTest := false } := by
  unfold State.testStart
  rw [if_pos htest]
  dsimp only
  split
  · next w hw => exact if_neg (h w hw)
  · rfl

theorem State.testStart_starts {s : State} {w : WindowRec} (htest : s.claims.startTest = true)
    (hw : s.claims.openWin = some w) (hmay : s.mayCompose w = true) :
    s.testStart = (s.withClaims { s.claims with startTest := false }).startComposition w := by
  unfold State.testStart
  rw [if_pos htest]
  dsimp only
  rw [show (s.withClaims { s.claims with startTest := false }).claims.openWin = some w from hw]
  exact if_pos hmay

/-- The test leaves the windows and the fill view. -/
theorem State.testStart_windows (s : State) :
    s.testStart.claims.openWin = s.claims.openWin ∧ s.testStart.claims.closedWin = s.claims.closedWin ∧
      s.testStart.claims.fill = s.claims.fill := by
  by_cases htest : s.claims.startTest = true
  · by_cases hmay : ∃ w, s.claims.openWin = some w ∧ s.mayCompose w = true
    · obtain ⟨w, hw, hmay⟩ := hmay
      rw [State.testStart_starts htest hw hmay, State.startComposition]
      simp
    · rw [State.testStart_fails htest (fun w hw h => hmay ⟨w, hw, h⟩)]
      exact ⟨rfl, rfl, rfl⟩
  · rw [State.testStart_idle s (Bool.eq_false_iff.2 htest)]
    exact ⟨rfl, rfl, rfl⟩

/-- The test starts a composition where nothing is under way. -/
theorem State.testStart_slot {s : State} {w : WindowRec} (htest : s.claims.startTest = true)
    (hw : s.claims.openWin = some w) (hmay : s.mayCompose w = true) :
    ∃ c, s.testStart.claims.slot = .composing c ∧ c.items = [] := by
  rw [State.testStart_starts htest hw hmay, State.startComposition]
  simp

/-- Outside TRACKING the test starts nothing. -/
theorem State.testStart_untracked {s : State} (h : s.clock.state ≠ .tracking) :
    s.testStart.claims.slot = s.claims.slot := by
  by_cases htest : s.claims.startTest = true
  · rw [State.testStart_fails htest (fun w _ hmay => h ((s.mayCompose_iff w).1 hmay).1)]
    rfl
  · rw [State.testStart_idle s (Bool.eq_false_iff.2 htest)]

/-! ### The reactions to a window begun by a mark (R99) -/

/-- What the Claim Builder's reaction to a mark makes of its state. -/
structure MarkReacted (n : Serial) (ahead : AirTime) (plan : AirPlan) (s t : State) : Prop where
  clock : t.clock = s.clock
  openWin : t.claims.openWin = some { air := ahead, serial := n + 2, plan := plan, sent := 0, claims := [] }
  fill : t.claims.fill = List.replicate 16 0
  raised : t.claims.startTest = true
  closes : ∀ w, s.claims.openWin = some w → w.serial = n + 1 → t.claims.closedWin = some w
  empty : s.claims.openWin = none → s.claims.closedWin = none → t.claims.closedWin = none
  ready : s.claims.slot ≠ .sent →
    (s.claims.slot.busy = true → ∃ w, s.claims.openWin = some w ∧ (w.serial = n ∨ w.serial = n + 1)) →
    t.claims.slot = .idle ∨ t.claims.slot = .waiting

theorem slot_ready {x : ClaimSlot} (hunsent : x ≠ .sent) (hfree : x.busy = false) : x = .idle ∨ x = .waiting := by
  cases x with
  | idle => exact .inl rfl
  | waiting => exact .inr rfl
  | composing c => cases hfree
  | prepared c => cases hfree
  | sent => exact absurd rfl hunsent

theorem serial_succ_ne (n : Serial) : n + 1 ≠ n := by bv_omega

theorem State.closeAt_clock (s : State) (n : Serial) : (s.closeAt n).clock = s.clock := by
  by_cases h : ∃ w, s.claims.openWin = some w ∧ w.serial = n
  · obtain ⟨w, hw, hn⟩ := h
    rw [State.closeAt_same hw hn, State.withClaims_clock, ((ClaimsKept.refl s).abandon).clock]
  · rw [State.closeAt_other (fun w hw hn => h ⟨w, hw, hn⟩)]

/-- The window after a serial's stays OPEN while the serial's are resolved. -/
theorem Resolved.openWin_next {n : Serial} {s t : State} (h : Resolved n s t) {w : WindowRec}
    (hw : s.claims.openWin = some w) (hn : w.serial = n + 1) : t.claims.openWin = some w := by
  rw [h.openWin, hw, Option.filter_some, if_pos]
  rw [decide_eq_true_eq, hn]
  exact serial_succ_ne n

/-- Closing leaves no work for the window closed, nor for one just resolved. -/
theorem Resolved.closeAt_ready {n : Serial} {s t : State} (h : Resolved n s t) (hunsent : s.claims.slot ≠ .sent)
    (hback : s.claims.slot.busy = true → ∃ w, s.claims.openWin = some w ∧ (w.serial = n ∨ w.serial = n + 1)) :
    (t.closeAt (n + 1)).claims.slot ≠ .sent ∧ (t.closeAt (n + 1)).claims.slot.busy = false := by
  by_cases hnext : ∃ w, t.claims.openWin = some w ∧ w.serial = n + 1
  · obtain ⟨w, hw, hn⟩ := hnext
    rw [State.closeAt_same hw hn]
    exact ⟨(ClaimsKept.refl t).abandon.unsent (h.unsent hunsent), t.abandon_free⟩
  · rw [State.closeAt_other (fun w hw hn => hnext ⟨w, hw, hn⟩)]
    refine ⟨h.unsent hunsent, ?_⟩
    by_cases hbusy : s.claims.slot.busy = true
    · obtain ⟨w, hw, hn⟩ := hback hbusy
      exact h.freed w hw (hn.resolve_right (fun hn => hnext ⟨w, h.openWin_next hw hn, hn⟩))
    · rw [h.slot (Bool.eq_false_iff.2 hbusy)]
      exact Bool.eq_false_iff.2 hbusy

/-- A window opened after a serial's are resolved and the next closed. -/
theorem Resolved.reacted {n : Serial} {s t : State} (h : Resolved n s t) (ahead : AirTime) (plan : AirPlan) :
    MarkReacted n ahead plan s ((t.closeAt (n + 1)).openWindow ahead (n + 2) plan) := by
  obtain ⟨v, hv, heq⟩ := (t.closeAt (n + 1)).openWindow_kept ahead (n + 2) plan
  rw [heq]
  refine ⟨?_, ?_, ?_, rfl, fun w hw hn => ?_, fun ho hc => ?_, fun hunsent hback => ?_⟩
  · rw [State.withClaims_clock, hv.clock, State.opened, State.withClaims_clock, State.closeAt_clock, h.clock]
  · rw [State.withClaims_claims, hv.openWin]
    rfl
  · rw [State.withClaims_claims, hv.fill]
    rfl
  · rw [State.withClaims_claims, hv.closedWin, State.opened, State.withClaims_claims,
      State.closeAt_same (h.openWin_next hw hn) hn]
    rfl
  · have hopen : t.claims.openWin = none := by rw [h.openWin, ho]; rfl
    have hother : ∀ w, t.claims.openWin = some w → w.serial ≠ n + 1 := fun w hw => by rw [hopen] at hw; cases hw
    rw [State.withClaims_claims, hv.closedWin, State.opened, State.withClaims_claims, State.closeAt_other hother,
      h.closedWin, hc]
    rfl
  · obtain ⟨hu, hf⟩ := h.closeAt_ready hunsent hback
    rw [State.withClaims_claims]
    exact slot_ready (hv.unsent hu) (hv.free hf)

theorem State.markReacted_claimsOnMark (s : State) (n : Serial) (ahead : AirTime) (plan : AirPlan) :
    MarkReacted n ahead plan s (s.claimsOnMark n ahead plan) :=
  (State.resolved_resolveAt (claimWise_missingCarried n) s n).reacted ahead plan

/-- The Tracker's reaction after the Claim Builder's takes nothing from it. -/
theorem MarkReacted.before {n : Serial} {ahead : AirTime} {plan : AirPlan} {s t u : State}
    (h : MarkReacted n ahead plan s t) (k : ClaimsKept t u) : MarkReacted n ahead plan s u where
  clock := k.clock.trans h.clock
  openWin := k.openWin.trans h.openWin
  fill := k.fill.trans h.fill
  raised := k.raised h.raised
  closes w hw hn := k.closedWin.trans (h.closes w hw hn)
  empty ho hc := k.closedWin.trans (h.empty ho hc)
  ready hunsent hback := by
    have hready := h.ready hunsent hback
    have hfree : t.claims.slot.busy = false := by rcases hready with hready | hready <;> rw [hready] <;> rfl
    rwa [k.slot hfree]

/-- The Tracker's reaction before the Claim Builder's changes nothing that it asks. -/
theorem MarkReacted.after {n : Serial} {ahead : AirTime} {plan : AirPlan} {s t u : State}
    (k : ClaimsKept s t) (h : MarkReacted n ahead plan t u) : MarkReacted n ahead plan s u where
  clock := h.clock.trans k.clock
  openWin := h.openWin
  fill := h.fill
  raised := h.raised
  closes w hw := h.closes w (k.openWin.trans hw)
  empty ho hc := h.empty (k.openWin.trans ho) (k.closedWin.trans hc)
  ready hunsent hback := h.ready (k.unsent hunsent) (fun hbusy => by
    rw [k.openWin]
    refine hback ?_
    refine Classical.byContradiction fun hfree => ?_
    rw [k.slot (Bool.eq_false_iff.2 hfree)] at hbusy
    exact hfree hbusy)

theorem State.markReacted_announce (s : State) (e : Env) (n : Serial) (air : AirTime) (plan : AirPlan) :
    MarkReacted n (airNext (airNext air)) plan s (s.announceMark e n air plan) := by
  unfold State.announceMark inOrder
  split
  · exact .after ((ClaimsKept.refl s).trackerOnWindow n air.window) (State.markReacted_claimsOnMark _ _ _ _)
  · exact .before (State.markReacted_claimsOnMark _ _ _ _) ((ClaimsKept.refl _).trackerOnWindow n air.window)

/-! ### Marks (R88 to R91) -/

theorem State.takeMark_search {s : State} (h : s.clock.state = .search) (e : Env) (b : MarkBody) :
    s.takeMark e b = s.markInSearch e (airOf b) e.moment (planOf b) := by
  unfold State.takeMark
  rw [h]

theorem State.takeMark_current {s : State} {cur : Current} (h : s.clock.state ≠ .search)
    (hcur : s.clock.current = some cur) (e : Env) (b : MarkBody) :
    s.takeMark e b = s.markInStep e cur (airOf b) e.moment (planOf b) := by
  unfold State.takeMark
  rw [hcur]
  cases hs : s.clock.state with
  | search => exact absurd hs h
  | _ => rfl

theorem exec_mark_taken {h : Header} {b : MarkBody} {s : State} (e : Env) (htaken : s.takes h (.mark b) = true) :
    exec (.mark h e b) s = .next ((s.atFrame h e).takeMark e b).testStart :=
  congrArg Host.Outcome.next (s.hear_taken h e _ _ htaken)

/-- A mark that begins no window leaves no test of R103 outstanding. -/
theorem exec_mark_unbegun {h : Header} {b : MarkBody} {s : State} {e : Env} (htaken : s.takes h (.mark b) = true)
    {t : State} (ht : (s.atFrame h e).takeMark e b = t) (hidle : t.claims.startTest = false) :
    exec (.mark h e b) s = .next t := by
  rw [exec_mark_taken e htaken, ht, State.testStart_idle t hidle]

theorem consistent_iff (before : AirTime) (beforeAt : Nat) (air : AirTime) (arrival : Nat) :
    consistent before beforeAt air arrival = true ↔
      air = airNext before ∧ beforeAt + 2340 ≤ arrival ∧ arrival ≤ beforeAt + 2460 := by
  simp only [consistent, Bool.and_eq_true, decide_eq_true_eq]

/-- What a window begun by a mark makes of the clock and the Claim Builder. -/
theorem State.beginByMark_spec (s : State) (e : Env) (air : AirTime) (arrival : Nat) (plan : AirPlan) :
    MarkReacted (s.clock.serial + 1) (airNext (airNext air)) plan
      (s.raiseClock (clockBegun s.clock air arrival plan)) (s.beginByMark e air arrival plan) :=
  State.markReacted_announce _ e _ air plan

/-- A window begun by a mark, with both blocks' reactions spelled out. -/
theorem State.beginByMark_eq (s : State) (e : Env) (air : AirTime) (arrival : Nat) (plan : AirPlan) :
    let serial := s.clock.serial + 1
    let v := (s.withClock (clockBegun s.clock air arrival plan)).rewrite [.serial]
    let claims (u : State) : State :=
      ((u.resolveAt serial (State.missingCarried serial)).closeAt (serial + 1)).openWindow (airNext (airNext air))
        (serial + 2) plan
    let deadlines (u : State) : State := u.tracker.deadlines.foldl (State.meetDeadline serial air.window) u
    s.beginByMark e air arrival plan = if e.trackerFirst then claims (deadlines v) else deadlines (claims v) := by
  dsimp only
  unfold State.beginByMark State.announceMark inOrder State.claimsOnMark State.trackerOnWindow State.raiseClock
  dsimp only

theorem State.beginByMark_clock (s : State) (e : Env) (air : AirTime) (arrival : Nat) (plan : AirPlan) :
    (s.beginByMark e air arrival plan).clock = clockBegun s.clock air arrival plan := by
  rw [(s.beginByMark_spec e air arrival plan).clock, State.raiseClock, State.rewrite_clock, State.withClock_clock]

theorem State.raiseClock_claims (s : State) (c : Clock) : (s.raiseClock c).claims = s.claims := by
  simp [State.raiseClock]

theorem serial_two_ahead (n : Serial) : n + 1 + 2 = n + 3 := by bv_omega

theorem serial_one_ahead (n : Serial) : n + 1 + 1 = n + 2 := by bv_omega

/-- What a mark changes at the most. -/
theorem keptBut_markTaken {s : State} {h : Header} {e : Env} {b : MarkBody} {t : State}
    (ht : ((s.atFrame h e).takeMark e b).testStart = t) :
    KeptBut [.now, .faults, .stats, .span, .subs, .intake, .store, .clock, .claims, .tracker, .queue, .parity] s t := by
  rw [← ht]
  exact ((keptBut_atFrame h e).mono (by simp)).trans (by simp)

/-- A mark that begins a window, from a state whose clock is still the one the mark met. -/
theorem exec_mark_begun {h : Header} {e : Env} {b : MarkBody} {s u : State} {air : AirTime} {plan : AirPlan}
    (htaken : s.takes h (.mark b) = true)
    (hbegun : (s.atFrame h e).takeMark e b = u.beginByMark e air e.moment plan) (hclock : u.clock = s.clock) :
    let serial := s.clock.serial + 1
    let v := (u.withClock (clockBegun s.clock air e.moment plan)).rewrite [.serial]
    let claims (u : State) : State :=
      ((u.resolveAt serial (State.missingCarried serial)).closeAt (serial + 1)).openWindow (airNext (airNext air))
        (serial + 2) plan
    let deadlines (u : State) : State := u.tracker.deadlines.foldl (State.meetDeadline serial air.window) u
    ∃ t, exec (.mark h e b) s = .next t.testStart ∧
      t = (if e.trackerFirst then claims (deadlines v) else deadlines (claims v)) ∧
      MarkReacted serial (airNext (airNext air)) plan (u.withClock (clockBegun s.clock air e.moment plan)) t ∧
      KeptBut [.now, .faults, .stats, .span, .subs, .intake, .store, .clock, .claims, .tracker, .queue, .parity] s
        t.testStart := by
  have hexec := (exec_mark_taken e htaken).trans (congrArg (fun t => Host.Outcome.next t.testStart) hbegun)
  have heq := u.beginByMark_eq e air e.moment plan
  have hspec := u.beginByMark_spec e air e.moment plan
  have hkept := keptBut_markTaken (congrArg State.testStart hbegun)
  dsimp only at heq
  rw [hclock] at heq hspec
  exact ⟨_, hexec, heq, .after ((ClaimsKept.refl _).beside (by simp [State.raiseClock, besideClaims])) hspec, hkept⟩

theorem MarkReacted.tested_openWin {n : Serial} {ahead : AirTime} {plan : AirPlan} {s t : State}
    (h : MarkReacted (n + 1) ahead plan s t) : t.testStart.claims.openWin =
      some { air := ahead, serial := n + 3, plan := plan, sent := 0, claims := [] } := by
  rw [(State.testStart_windows t).1, h.openWin, serial_two_ahead]

theorem airNext_ne (a : AirTime) : airNext a ≠ a := by
  obtain ⟨lap, w⟩ := a
  unfold airNext
  dsimp only
  intro h
  split at h
  · rw [AirTime.mk.injEq] at h
    omega
  · split at h
    · rw [AirTime.mk.injEq] at h
      omega
    · rw [AirTime.mk.injEq] at h
      omega

/-- Settles O18: SEARCH's four cases, the last through what a window begun by a mark leaves. -/
theorem searchJudgesMarks : Obligations.SearchJudgesMarks := by
  refine ⟨fun lap w => ⟨fun hw => if_pos hw, fun hlap => ?_, rfl⟩, ?_⟩
  · rw [airNext, if_neg (Nat.lt_irrefl 74), if_pos hlap]
  · intro h e b s htaken hidle hsearch air asCandidate
    have hmark : (s.atFrame h e).takeMark e b = (s.atFrame h e).markInSearch e air e.moment (planOf b) :=
      State.takeMark_search (s := s.atFrame h e) hsearch e b
    refine ⟨fun hnone => ?_, fun c hc => ⟨fun hair => ?_, fun hair hearly hlate => ?_, fun hair hnot => ?_⟩⟩
    · refine exec_mark_unbegun htaken (hmark.trans ?_) hidle
      rw [State.markInSearch, State.atFrame_clock, hnone]
      rfl
    · refine exec_mark_unbegun htaken (hmark.trans ?_) hidle
      rw [State.markInSearch, State.atFrame_clock, hc]
      exact if_pos hair
    · have hne : ¬ air = c.air := fun heq => airNext_ne c.air (hair.symm.trans heq)
      have hbegun : (s.atFrame h e).takeMark e b =
          ((s.atFrame h e).bump .clockAcquired).beginByMark e air e.moment (planOf b) := by
        rw [hmark, State.markInSearch, State.atFrame_clock, hc]
        dsimp only
        rw [if_neg hne, if_pos ((consistent_iff _ _ _ _).2 ⟨hair, hearly, hlate⟩)]
      obtain ⟨T, hexec, hT, hreacted, hkept⟩ := exec_mark_begun htaken hbegun rfl
      have hclock : T.testStart.clock = clockBegun s.clock air e.moment (planOf b) := by
        rw [State.testStart_clock, hreacted.clock, State.withClock_clock]
      dsimp only [clockBegun, planOf, airOf] at hT ⊢
      exact ⟨T.testStart, hexec, congrArg State.testStart hT, hclock, hreacted.tested_openWin, hkept⟩
    · refine exec_mark_unbegun htaken (hmark.trans ?_) hidle
      rw [State.markInSearch, State.atFrame_clock, hc]
      dsimp only
      rw [if_neg hair, if_neg (mt (consistent_iff _ _ _ _).1 hnot)]
      rfl

/-- Settles O19: the branches of R89 and R91 at which no window begins. -/
theorem markOutOfTurnBeginsNoWindow : Obligations.MarkOutOfTurnBeginsNoWindow := by
  intro h e b s cur htaken hidle hstate hcur air
  have hmark : (s.atFrame h e).takeMark e b = (s.atFrame h e).markInStep e cur air e.moment (planOf b) :=
    State.takeMark_current (s := s.atFrame h e) hstate hcur e b
  have hne : air = airNext cur.air → ¬ air = cur.air := fun hnext heq => airNext_ne cur.air (hnext.symm.trans heq)
  refine ⟨fun hair hbegun => ?_, fun hair hbegun => ?_, fun hair hearly => ?_, fun hair hlate => ?_,
    fun hair hnext hheld => ?_⟩
  · refine exec_mark_unbegun htaken (hmark.trans ?_) hidle
    rw [State.markInStep, if_pos hair, hbegun]
  · refine exec_mark_unbegun htaken (hmark.trans ?_) hidle
    rw [State.markInStep, if_pos hair, hbegun]
  · refine exec_mark_unbegun htaken (hmark.trans ?_) hidle
    rw [State.markInStep, if_neg (hne hair), if_pos hair]
    exact if_pos hearly
  · refine exec_mark_unbegun htaken (hmark.trans ?_) hidle
    have hlate' : ¬ e.moment ≤ cur.start + Config.windowMs + Config.toleranceMs := Nat.not_le.2 hlate
    have hearly' : ¬ e.moment + Config.toleranceMs < cur.start + Config.windowMs := by
      have : cur.start + 2460 < e.moment := hlate
      unfold Config.toleranceMs Config.windowMs
      omega
    rw [State.markInStep, if_neg (hne hair), if_pos hair, if_neg hearly', if_neg hlate']
  · refine exec_mark_unbegun htaken (hmark.trans ?_) hidle
    rw [State.markInStep, if_neg hair, if_neg hnext, State.markOutOfStep, State.atFrame_clock]
    cases hx : s.clock.held with
    | none => rfl
    | some x =>
      dsimp only
      rw [if_neg (mt (consistent_iff _ _ _ _).1 (hheld x hx))]
      rfl

/-- The window a mark's reactions leave OPEN passes the test where nothing is under way. -/
theorem MarkReacted.composes {n : Serial} {ahead : AirTime} {plan : AirPlan} {s t : State}
    (h : MarkReacted n ahead plan s t) (htracking : s.clock.state = .tracking)
    (hready : t.claims.slot = .idle ∨ t.claims.slot = .waiting) :
    ∃ c, t.testStart.claims.slot = .composing c ∧ c.items = [] :=
  State.testStart_slot h.raised h.openWin
    ((t.mayCompose_iff _).2 ⟨(congrArg Clock.state h.clock).trans htracking, hready, Nat.zero_lt_succ 15⟩)

/-- The opening's stores, in the obligations' spelling. -/
theorem State.openWindow_spelled (u : State) (air : AirTime) (n : Serial) (p : AirPlan) :
    let x : State := { u with claims := { u.claims with
      openWin := some { air := air, serial := n, plan := p, sent := 0, claims := [] }, fill := List.replicate 16 0,
      arbiter := ⟨⟨0, 0, 0⟩, none, none⟩, blocked := [] } }
    let y := [Feed.urgent, .retry, .routine].foldl (fun z f =>
      ((z.dueList (dueKey air.window f)).foldl (State.expireUnclaimed n) z).noteReads
        [.dueList (dueKey air.window f)]) x
    u.openWindow air n p = { y with claims := { y.claims with startTest := true } } := by
  intro x y
  have hx : u.opened air n p = x := rfl
  clear_value x
  have hy : x.openingWalk air.window n = y := rfl
  clear_value y
  rw [State.openWindow_eq, hx, hy]
  rfl

theorem State.startComposition_spelled {u : State} {w : WindowRec} (htest : u.claims.startTest = true)
    (hw : u.claims.openWin = some w) (hmay : u.mayCompose w = true) :
    u.testStart = State.noteReads { u with
      claims := { u.claims with
        startTest := false
        slot := .composing { items := [], tally := List.replicate 16 0, savedArbiter := u.claims.arbiter,
                             savedBlocked := u.claims.blocked.length, chosen := none } }
      store := { u.store with cursors :=
        ⟨(u.dueList (dueKey w.air.window .urgent)).head?, (u.dueList (dueKey w.air.window .retry)).head?,
          (u.dueList (dueKey w.air.window .routine)).head?⟩ } }
      [.dueList (dueKey w.air.window .urgent), .dueList (dueKey w.air.window .retry),
        .dueList (dueKey w.air.window .routine)] := by
  rw [State.testStart_starts htest hw hmay, State.startComposition]
  rfl

/-- Settles O20: the resolving, the closing, the opening, its walk and the test in their own lemmas, and what the
reactions to a window begun by a mark leave. -/
theorem goodMarkBeginsWindow : Obligations.GoodMarkBeginsWindow := by
  intro h e b s cur htaken hstate hcur hair hearly hlate
  refine ⟨fun u w hw hn hopen => ?_, fun u w hw hn hclosed => ?_, fun u hother => State.resolveAt_other hother,
    fun u w n hw => ⟨fun hn => State.closeAt_same hw hn, fun hn => State.closeAt_other fun x hx hxn => ?_⟩,
    fun u air n p => u.openWindow_spelled air n p, fun u n slot m hm => ⟨fun hexp => ?_, fun hexp => ?_⟩,
    fun u n slot hm => State.expireUnclaimed_free n hm, fun u => ⟨u.testStart_idle, fun htest => ⟨fun hmay => ?_,
      fun w hw hmay => State.startComposition_spelled htest hw ((u.mayCompose_iff w).2 hmay)⟩⟩, ?_⟩
  · exact State.resolveAt_closed (claimWise_missingCarried _) hw hn hopen
  · exact State.resolveAt_open hw hn hclosed
  · rw [hw, Option.some.injEq] at hx
    exact hn (hx ▸ hxn)
  · rw [State.expireUnclaimed_eq n hm, if_pos hexp]
  · rw [State.expireUnclaimed_eq n hm, if_neg hexp]
  · exact State.testStart_fails htest (fun w hw h => hmay w hw ((u.mayCompose_iff w).1 h))
  · have hne : ¬ airOf b = cur.air := fun heq => airNext_ne cur.air (hair.symm.trans heq)
    have hbegun : (s.atFrame h e).takeMark e b =
        (s.atFrame h e).beginByMark e (airNext cur.air) e.moment (planOf b) := by
      have hearly' : ¬ e.moment + Config.toleranceMs < cur.start + Config.windowMs := by
        unfold Config.toleranceMs Config.windowMs
        omega
      rw [State.takeMark_current (s := s.atFrame h e) hstate hcur, State.markInStep, if_neg hne,
        if_pos (show airOf b = airNext cur.air from hair), if_neg hearly', ← show airOf b = airNext cur.air from hair]
      exact if_pos hlate
    obtain ⟨T, hexec, hT, hreacted, hkept⟩ := exec_mark_begun htaken hbegun rfl
    have hclock : T.testStart.clock = clockBegun s.clock (airNext cur.air) e.moment (planOf b) := by
      rw [State.testStart_clock, hreacted.clock, State.withClock_clock]
    obtain ⟨hopenWin, hclosedWin, hfill⟩ := T.testStart_windows
    dsimp only [clockBegun, planOf, airOf] at hT ⊢
    refine ⟨T.testStart, hexec, congrArg State.testStart hT, hclock, hreacted.tested_openWin,
      hfill.trans hreacted.fill, fun w hw hn => hclosedWin.trans (hreacted.closes w hw ?_),
        fun hunsent hback => ?_, hkept⟩
    · rw [hn, serial_one_ahead]
    · refine hreacted.composes rfl (hreacted.ready hunsent fun hbusy => ?_)
      obtain ⟨w, hw, hn⟩ := hback hbusy
      exact ⟨w, hw, hn.imp_right fun hn => hn.trans (serial_one_ahead _).symm⟩

/-! ### Voiding at a jump or a loss (R101) -/

theorem claimsOf_eq (o : Option WindowRec) : claimsOf o = (o.map WindowRec.claims).getD [] := by
  cases o <;> rfl

/-- The voiding, in the obligations' spelling. -/
theorem State.voidAll_spelled (u : State) :
    let a := u.abandon
    let r := ((a.claims.closedWin.map WindowRec.claims).getD [] ++
      (a.claims.openWin.map WindowRec.claims).getD []).foldl State.voidClaim a
    u.voidAll = { r with claims := { r.claims with openWin := none, closedWin := none, slot := .idle } } := by
  dsimp only
  rw [← claimsOf_eq, ← claimsOf_eq]
  rfl

theorem State.voidClaim_spelled (u : State) (c : ClaimRec) :
    (c.resolved = true → u.voidClaim c = u) ∧
    (c.resolved = false → u.voidClaim c = (c.items.foldl State.dropItem u).bump .claimsVoided) ∧
    (u.voidClaim c).stat .itemsSpilled = u.stat .itemsSpilled :=
  ⟨fun h => if_pos h, fun h => if_neg (Bool.not_eq_true _ ▸ h), ((Noted.refl u).voidClaim c).spilled⟩

theorem State.voidAll_windows (s : State) :
    s.voidAll.claims.openWin = none ∧ s.voidAll.claims.closedWin = none ∧ s.voidAll.claims.slot = .idle :=
  ⟨rfl, rfl, rfl⟩

theorem State.voidAll_clock (s : State) : s.voidAll.clock = s.clock :=
  (by simp : KeptBut [.queue, .span, .stats, .subs, .store, .intake, .tracker, .claims, .faults, .parity] s s.voidAll)
    .clock (by decide)

/-- Settles O21: the voiding in its own lemmas, and a window begun by a mark from the voided state. -/
theorem jumpMovesAirTime : Obligations.JumpMovesAirTime := by
  refine ⟨State.voidAll_spelled, State.voidClaim_spelled, fun h e b s cur x htaken hstate hcur hheld => ?_⟩
  intro air plan serial ahead begun v claims deadlines hother hnext hair hearly hlate
  have hbegun : (s.atFrame h e).takeMark e b =
      (((s.atFrame h e).bump .clockJumps).voidAll).beginByMark e (airOf b) e.moment (planOf b) := by
    rw [State.takeMark_current (s := s.atFrame h e) hstate hcur, State.markInStep,
      if_neg (show ¬ airOf b = cur.air from hother), if_neg (show ¬ airOf b = airNext cur.air from hnext),
      State.markOutOfStep, State.atFrame_clock, hheld]
    exact if_pos ((consistent_iff _ _ _ _).2 ⟨hair, hearly, hlate⟩)
  have hvoided : (((s.atFrame h e).bump .clockJumps).voidAll).clock = s.clock := State.voidAll_clock _
  obtain ⟨T, hexec, hT, hreacted, hkept⟩ := exec_mark_begun htaken hbegun hvoided
  have hclock : T.testStart.clock = clockBegun s.clock (airOf b) e.moment (planOf b) := by
    rw [State.testStart_clock, hreacted.clock, State.withClock_clock]
  refine ⟨T.testStart, hexec, ?_, hclock, ?_, hreacted.tested_openWin, hkept⟩
  · dsimp only [clockBegun, planOf, airOf, claims, deadlines, v, begun, ahead, serial, plan, air] at hT ⊢
    exact congrArg State.testStart hT
  · rw [T.testStart_windows.2.1]
    exact hreacted.empty rfl rfl

/-! ### A coast expiry (R92, R93) -/

/-- What both blocks' reactions to a coasted window make of the Claim Builder. -/
structure CoastReacted (n : Serial) (s t : State) : Prop where
  clock : t.clock = s.clock
  slot : t.claims.slot = .idle
  fill : t.claims.fill = s.claims.fill
  openWin : t.claims.openWin = s.claims.openWin.filter (fun w => w.serial ≠ n)
  closedWin : t.claims.closedWin = s.claims.closedWin.filter (fun w => w.serial ≠ n)

theorem State.coastReacted_claimsOnCoast (s : State) (n : Serial) : CoastReacted n s (s.claimsOnCoast n) := by
  have hresolved := State.resolved_resolveAt claimWise_missingSpilled s n
  have habandoned := (ClaimsKept.refl (s.resolveAt n State.missingSpilled)).abandon
  exact ⟨habandoned.clock.trans hresolved.clock, rfl, habandoned.fill.trans hresolved.fill,
    habandoned.openWin.trans hresolved.openWin, habandoned.closedWin.trans hresolved.closedWin⟩

theorem CoastReacted.before {n : Serial} {s t u : State} (h : CoastReacted n s t) (k : ClaimsKept t u) :
    CoastReacted n s u :=
  ⟨k.clock.trans h.clock, k.idle h.slot, k.fill.trans h.fill, k.openWin.trans h.openWin,
    k.closedWin.trans h.closedWin⟩

theorem CoastReacted.after {n : Serial} {s t u : State} (k : ClaimsKept s t) (h : CoastReacted n t u) :
    CoastReacted n s u :=
  ⟨h.clock.trans k.clock, h.slot, h.fill.trans k.fill, by rw [h.openWin, k.openWin],
    by rw [h.closedWin, k.closedWin]⟩

theorem State.coastReacted_announce (s : State) (e : Env) (n : Serial) (air : AirTime) :
    CoastReacted n s (s.announceCoast e n air) := by
  unfold State.announceCoast inOrder
  split
  · exact .after ((ClaimsKept.refl s).trackerOnWindow n air.window) (State.coastReacted_claimsOnCoast _ n)
  · exact .before (State.coastReacted_claimsOnCoast s n) ((ClaimsKept.refl _).trackerOnWindow n air.window)

/-- Both reactions to a coasted window, in the obligations' spelling. -/
theorem State.announceCoast_spelled (v : State) (e : Env) (n : Serial) (air : AirTime) :
    let claims (u : State) : State :=
      let x := (u.resolveAt n State.missingSpilled).abandon
      { x with claims := { x.claims with slot := .idle } }
    let deadlines (u : State) : State := u.tracker.deadlines.foldl (State.meetDeadline n air.window) u
    v.announceCoast e n air = if e.trackerFirst then claims (deadlines v) else deadlines (claims v) := by
  unfold State.announceCoast inOrder
  rfl

/-- The time base and the count of a coast expiry. -/
def State.coastMissed (s : State) (e : Env) (cur : Current) : State :=
  (s.withNow (max (max s.now e.moment) (cur.start + 2460))).bump .marksMissed

theorem State.coast_eq {s : State} {cur : Current} (e : Env) (hstate : s.clock.state ≠ .search)
    (hcur : s.clock.current = some cur) :
    s.coast e = if s.clock.misses < 3 then
      ((s.coastMissed e cur).raiseClock (clockCoasted s.clock cur)).announceCoast e (s.clock.serial + 1)
        (airNext cur.air)
    else ((((s.coastMissed e cur).latch .clockLost).bump .clockLosses).withClock (clockLost s.clock)).voidAll := by
  unfold State.coast
  rw [hcur]
  cases hs : s.clock.state with
  | search => exact absurd hs hstate
  | _ => rfl

theorem exec_coastExpiry_serving {s : State} (e : Env) (hservice : s.unit.engine = .service)
    (hreset : s.unit.resetLow = false) : exec (.coastExpiry e) s = .next (s.coast e).testStart :=
  congrArg Host.Outcome.next (if_pos (State.serving_of hservice hreset))

/-- Settles O22: what both blocks' reactions to a coasted window leave, in either order. -/
theorem coastBeginsWindowOnGrid : Obligations.CoastBeginsWindowOnGrid := by
  intro e s cur hservice hreset hstate hcur hmisses
  refine ⟨fun u w hw hn hclosed => State.resolveAt_open hw hn hclosed,
    fun u w hw hn hopen => State.resolveAt_closed claimWise_missingSpilled hw hn hopen,
    fun u hother => State.resolveAt_other hother, ?_⟩
  have hreacted := ((s.coastMissed e cur).raiseClock (clockCoasted s.clock cur)).coastReacted_announce e
    (s.clock.serial + 1) (airNext cur.air)
  have hcoast := (State.coast_eq e hstate hcur).trans (if_pos hmisses)
  have hspelled := ((s.coastMissed e cur).raiseClock (clockCoasted s.clock cur)).announceCoast_spelled e
    (s.clock.serial + 1) (airNext cur.air)
  have hkept : KeptBut [.faults, .queue, .span, .stats, .subs, .store, .intake, .tracker, .claims, .parity]
      ((s.coastMissed e cur).raiseClock (clockCoasted s.clock cur)) (((s.coastMissed e cur).raiseClock
        (clockCoasted s.clock cur)).announceCoast e (s.clock.serial + 1) (airNext cur.air)).testStart := by simp
  have hall : KeptBut [.now, .faults, .stats, .span, .subs, .intake, .store, .clock, .claims, .tracker, .queue,
    .parity] s
      (s.coast e).testStart := by simp
  have hexec := exec_coastExpiry_serving e hservice hreset
  rw [hcoast] at hexec hall
  have hnow := hkept .now (by decide)
  have hmoved : ((s.coastMissed e cur).raiseClock (clockCoasted s.clock cur)).now =
      max (max s.now e.moment) (cur.start + 2460) :=
    (by simp [State.raiseClock, State.coastMissed] : KeptBut [.faults, .stats, .parity, .clock]
      (s.withNow (max (max s.now e.moment) (cur.start + 2460))) _) .now (by decide)
  generalize hT : ((s.coastMissed e cur).raiseClock (clockCoasted s.clock cur)).announceCoast e (s.clock.serial + 1)
    (airNext cur.air) = T at *
  obtain ⟨hopenWin, hclosedWin, hfill⟩ := T.testStart_windows
  have hclock : T.clock = clockCoasted s.clock cur := by
    rw [hreacted.clock]
    simp [State.raiseClock]
  have hclaims : ((s.coastMissed e cur).raiseClock (clockCoasted s.clock cur)).claims = s.claims :=
    State.raiseClock_claims _ _
  have huntracked : T.clock.state ≠ .tracking := by
    rw [hclock]
    nofun
  refine ⟨T.testStart, hexec, congrArg State.testStart hspelled, (State.testStart_clock T).trans hclock, ?_,
    (State.testStart_untracked huntracked).trans hreacted.slot, ?_, ?_, ?_, hall⟩
  · exact hnow.trans hmoved
  · rw [hfill, hreacted.fill, hclaims]
  · rw [hopenWin, hreacted.openWin, hclaims]
  · rw [hclosedWin, hreacted.closedWin, hclaims]

/-- Settles O23: the voiding in its own lemmas; it clears no cause. -/
theorem fourthMissLosesTheClock : Obligations.FourthMissLosesTheClock := by
  refine ⟨State.voidAll_spelled, State.voidClaim_spelled, fun e s cur hservice hreset hstate hcur hmisses => ?_⟩
  have hcoast := (State.coast_eq e hstate hcur).trans (if_neg (Nat.not_lt.2 hmisses))
  have hexec := exec_coastExpiry_serving e hservice hreset
  have hall : KeptBut [.now, .faults, .stats, .span, .subs, .intake, .store, .clock, .claims, .tracker, .queue,
    .parity] s
      (s.coast e).testStart := by simp
  rw [hcoast] at hexec hall
  let lost := (((s.coastMissed e cur).latch .clockLost).bump .clockLosses).withClock (clockLost s.clock)
  have hnoted : Noted lost lost.voidAll.testStart := (Noted.refl lost).voidAll.testStart
  have hclock : lost.voidAll.clock = clockLost s.clock := State.voidAll_clock lost
  have huntracked : lost.voidAll.clock.state ≠ .tracking := by
    rw [hclock]
    nofun
  have hlatched : causesHas lost.faults.causes .clockLost = true := by
    change causesHas ((s.coastMissed e cur).latch .clockLost).faults.causes .clockLost = true
    rw [(State.latch_eq _ _).1, causesHas_latch]
    rfl
  have hcause := hnoted.latched .clockLost hlatched
  have hunit : lost.voidAll.testStart.unit = s.unit := hall .unit (by decide)
  obtain ⟨hopenWin, hclosedWin, -⟩ := lost.voidAll.testStart_windows
  exact ⟨lost.voidAll.testStart, hexec, rfl, (State.testStart_clock _).trans hclock, hopenWin, hclosedWin,
    State.testStart_untracked huntracked, hcause,
    (State.faultLine_iff _).2 ⟨by rw [hunit]; exact hreset, .inl ⟨.clockLost, hcause⟩⟩, hall⟩

end Sys2Proof.Machine
end

section
/-! CLAIMs, REPORTs and HEARDs taken: the fill view (R102), an abandonment (R110, R111), the engine's own claims
(R113, R114), reports (R115 to R117) and HEARDs (R129 to R133). -/

namespace Sys2Proof.Machine

/-! ### What a revert and a drop do (R65, R117) -/

/-- The reservation of an item's first send released (R123). -/
def State.releasedFor (s : State) (i : Item) : State := if i.first then s.releaseReservation i.slot else s

@[simp] theorem State.msg_releasedFor (s : State) (i : Item) (k : Nat) : (s.releasedFor i).msg k = s.msg k := by
  unfold State.releasedFor
  split
  · rw [State.msg_releaseReservation]
  · rfl

theorem keptBut_releasedFor (s : State) (i : Item) : KeptBut [.tracker, .claims] s (s.releasedFor i) := by
  unfold State.releasedFor
  split <;> simp

@[simp] theorem State.sub_releasedFor (s : State) (i : Item) (k : Nat) : (s.releasedFor i).sub k = s.sub k :=
  State.sub_congr ((keptBut_releasedFor s i) .subs (by decide)) k

@[simp] theorem State.releasedFor_store (s : State) (i : Item) : (s.releasedFor i).store = s.store :=
  (keptBut_releasedFor s i) .store (by decide)

theorem State.releaseReservation_absent {s : State} {slot : Nat} (h : s.reservationOf slot = none) :
    s.releaseReservation slot = s := by
  unfold State.releaseReservation
  rw [h]

theorem State.releaseReservation_held {s : State} {slot : Nat} {q : Reservation} (h : s.reservationOf slot = some q) :
    s.releaseReservation slot = (s.withTracker { s.tracker with
      reservations := s.tracker.reservations.filter (fun y => y.slot ≠ slot) }).wake := by
  unfold State.releaseReservation
  rw [h]

section Revert

variable {s : State} {slot : Nat} {m : Msg}

theorem State.revert_due (hm : s.msg slot = some m) (hstate : m.state = .queued ∨ ∃ nb, m.state = .resting nb) :
    s.revert slot = (s.putMsg slot { m with link := none }).wakeAt (s.sub m.subIndex).homeWindow := by
  unfold State.revert
  rw [hm]
  dsimp only
  rcases hstate with h | ⟨nb, h⟩ <;> rw [h]

theorem State.revert_claimed {p : PreClaim} (hm : s.msg slot = some m) (hstate : m.state = .claimed p)
    (hmark : m.recallMark = false) : s.revert slot =
      (s.putMsg slot { m with link := none, state := preState p }).wakeAt (s.sub m.subIndex).homeWindow := by
  unfold State.revert
  rw [hm]
  dsimp only
  rw [hstate]
  exact if_neg (by rw [hmark]; nofun)

theorem State.revert_marked {p : PreClaim} (hm : s.msg slot = some m) (hstate : m.state = .claimed p)
    (hmark : m.recallMark = true) :
    s.revert slot = s.finishUnlinked slot { m with link := none } .cancelled := by
  unfold State.revert
  rw [hm]
  dsimp only
  rw [hstate]
  exact if_pos hmark

theorem State.revert_stageClaim {o : Ending} {f : Serial} (hm : s.msg slot = some m)
    (hstate : m.state = .finishing o f .claim) :
    s.revert slot = (s.putMsg slot { m with link := none }).settle slot := by
  unfold State.revert
  rw [hm]
  dsimp only
  rw [hstate]

end Revert

theorem State.dropItem_eq {s : State} {i : Item} {m : Msg} (hm : s.msg i.slot = some m) :
    s.dropItem i = ((s.releasedFor i).revert i.slot).noteReads [.message i.slot, .subscriber m.subIndex] := by
  rw [State.dropItem, State.readsOf_some hm]
  rfl

/-! ### Reports (R115) -/

theorem State.reportEntry_foreign {s : State} {x : ReportEntry} (air : AirTime)
    (hother : x.station.toNat ≠ s.unit.setup.own) : s.reportEntry air x = s := if_pos hother

theorem filter_air_none {air : AirTime} {o : Option WindowRec} (h : ∀ w, o = some w → w.air ≠ air) :
    o.filter (fun w => w.air = air) = none := by
  cases o with
  | none => rfl
  | some w => simp [h w rfl]

theorem filter_air_some {air : AirTime} {o : Option WindowRec} {w : WindowRec} (hw : o = some w) (hair : w.air = air) :
    o.filter (fun w => w.air = air) = some w := by simp [hw, hair]

/-- The claim of a window that an entry names. -/
def namedBy (x : ReportEntry) (w : WindowRec) : Option ClaimRec :=
  w.claims.find? (fun c => c.number = x.number.toNat ∧ c.resolved = false)

/-- An entry acts on the OPEN window of its air time, and else on the CLOSED one. -/
theorem State.reportEntry_own {s : State} {x : ReportEntry} {air : AirTime}
    (hown : x.station.toNat = s.unit.setup.own) : s.reportEntry air x =
      match s.claims.openWin.filter (fun w => w.air = air), s.claims.closedWin.filter (fun w => w.air = air) with
      | some w, _ =>
        match namedBy x w with
        | some c => (s.withClaims { s.claims with
            openWin := some { w with claims := resolveNumber c.number w.claims } }).settleClaim w.serial c
              x.accepted.toNat
        | none => s
      | none, some w =>
        match namedBy x w with
        | some c => (s.withClaims { s.claims with
            closedWin := some { w with claims := resolveNumber c.number w.claims } }).settleClaim w.serial c
              x.accepted.toNat
        | none => s
      | none, none => s :=
  if_neg (fun h => h hown)

/-- Settles O31: an entry by the window it finds, and a spilled item by its message's state. -/
theorem reportResolvesClaimByPrefix : Obligations.ReportResolvesClaimByPrefix := by
  refine ⟨fun h e b s htaken => congrArg Host.Outcome.next (s.hear_taken h e _ _ htaken), fun air s x => ?_,
    fun s slot => ⟨State.releaseReservation_absent, fun q => State.releaseReservation_held⟩, fun s i m hm => ?_⟩
  · intro named settled done
    refine ⟨State.reportEntry_foreign air, fun hopen hclosed => ?_, fun w hown hw hair => ?_,
      fun w hown hopen hw hair => ?_⟩
    · by_cases hown : x.station.toNat = s.unit.setup.own
      · rw [State.reportEntry_own hown, filter_air_none hopen, filter_air_none hclosed]
      · exact State.reportEntry_foreign air hown
    · rw [State.reportEntry_own hown, filter_air_some hw hair]
      dsimp only
      refine ⟨fun hnone => ?_, fun c hc => ?_⟩
      · rw [show namedBy x w = none from hnone]
      · rw [show namedBy x w = some c from hc]
        rfl
    · rw [State.reportEntry_own hown, filter_air_none hopen, filter_air_some hw hair]
      dsimp only
      refine ⟨fun hnone => ?_, fun c hc => ?_⟩
      · rw [show namedBy x w = none from hnone]
      · rw [show namedBy x w = some c from hc]
        rfl
  · intro v home bare dropped noted
    have hv : (s.releasedFor i).msg i.slot = some m := (s.msg_releasedFor i _).trans hm
    have hdropped : dropped = noted ((s.releasedFor i).revert i.slot) := State.dropItem_eq hm
    have hhome : ((s.releasedFor i).sub m.subIndex).homeWindow = home := by rw [State.sub_releasedFor]
    refine ⟨rfl, fun hstate => ?_, fun hstate hmark => ?_, fun nb hstate hmark => ?_, fun p hstate hmark => ?_,
      fun p hstate hmark => ?_, fun o f hstate => ?_⟩
    · rw [hdropped, State.revert_due hv hstate, hhome]
      rfl
    · rw [hdropped, State.revert_claimed hv hstate hmark, hhome]
      rfl
    · rw [hdropped, State.revert_claimed hv hstate hmark, hhome]
      rfl
    · rw [hdropped, State.revert_claimed hv hstate hmark]
      simp [noted]
    · rw [hdropped, State.revert_marked hv hstate hmark]
      rfl
    · rw [hdropped, State.revert_stageClaim hv hstate]
      rfl

/-! ### HEARDs (R129 to R133) -/

theorem addHeld_eq (m : Msg) (parts : PartMask) : addHeld m parts =
    if (match m.state with
      | .claimed _ => true
      | .awaiting => true
      | .resting _ => true
      | _ => false) then { m with held := m.held ||| (parts &&& m.aired) } else m := by
  unfold addHeld
  cases m.state <;> rfl

theorem State.takeHeard_unmatched {s : State} {b : HeardBody} (h : s.entryAt b.tag.toNat b.seq.toNat = none) :
    s.takeHeard b = s.bump .heardUnmatched := by
  unfold State.takeHeard
  rw [h]

/-- The counts of a matched HEARD (R133). -/
def State.matched (s : State) (x : Entry) : State :=
  if x.state = .between then (s.bump .heardMatched).bump .lateHeards else s.bump .heardMatched

theorem State.takeHeard_matched {s : State} {b : HeardBody} {x : Entry} {m : Msg}
    (hx : s.entryAt b.tag.toNat b.seq.toNat = some x) (hm : s.msg x.slot = some m) :
    s.takeHeard b = ((s.matched x).applyHeard b x.slot m).noteReads [.message x.slot, .subscriber m.subIndex] := by
  have hmatched : (if isBetween x then (s.bump .heardMatched).bump .lateHeards else s.bump .heardMatched) =
      s.matched x := by
    unfold isBetween State.matched
    split <;> simp_all
  have hmsg : (s.matched x).msg x.slot = some m := by
    unfold State.matched
    split <;> exact hm
  unfold State.takeHeard
  rw [hx]
  dsimp only
  rw [hmatched, hmsg, State.readsOf_some hm]

/-- The parts, the last heard and the finishing of a matched HEARD (R130 to R132). -/
theorem State.applyHeard_eq (s : State) (b : HeardBody) (slot : Nat) (m : Msg) :
    s.applyHeard b slot m =
      let m1 := addHeld m b.held
      let r := s.sub m.subIndex
      let best := offerHeard r.lastHeard ⟨b.zone.toNat, b.grade.toNat, s.clock.serial⟩
      let gained := if m1 = m then s else s.putMsg slot m1
      let w := (if r.lastHeard = some best then gained
        else gained.putSub m.subIndex { r with lastHeard := some best }).noteReads [.serial]
      if allParts m.counts.length &&& ~~~ m1.held = 0 then w.finish slot .delivered else w := by
  have hcounts : (addHeld m b.held).counts = m.counts := by
    unfold addHeld
    split <;> rfl
  have hsub : (if addHeld m b.held = m then s else s.putMsg slot (addHeld m b.held)).sub m.subIndex =
      s.sub m.subIndex := by
    split
    · rfl
    · exact s.sub_putMsg _ _ _
  unfold State.applyHeard allHeld
  dsimp only
  rw [hsub, hcounts]
  simp only [decide_eq_true_eq]

/-- Settles O32: the Tracker's reaction to a HEARD, by the entry of its key. -/
theorem heardCreditsItsEntry : Obligations.HeardCreditsItsEntry := by
  intro h e b s htaken hidle
  have hexec : exec (.heard h e b) s = .next ((s.atFrame h e).takeHeard b).testStart :=
    congrArg Host.Outcome.next (s.hear_taken h e _ (fun t => t.takeHeard b) htaken)
  refine ⟨fun hnone => ?_, fun x m hx hm => ?_⟩
  · rw [hexec, State.takeHeard_unmatched (s := s.atFrame h e) hnone]
    exact congrArg Host.Outcome.next (State.testStart_idle _ hidle)
  · dsimp only
    rw [hexec, State.takeHeard_matched (s := s.atFrame h e) hx hm, State.applyHeard_eq, addHeld_eq]
    have hsub : ((s.atFrame h e).matched x).sub m.subIndex = s.sub m.subIndex := by
      unfold State.matched
      split <;> rfl
    have hclock : ((s.atFrame h e).matched x).clock = s.clock := by
      unfold State.matched
      split <;> rfl
    dsimp only
    rw [hsub, hclock]
    rfl

/-! ### The fill view (R102) -/

theorem zoneAt_addCost (l : List Nat) (zones : ZoneSet) (cost : Nat) {z : Nat} (hz : z < 16) :
    zoneAt ((addCost l zones cost).map (min Config.max16)) z =
      min 65535 (zoneAt l z + if hasZone zones z then cost else 0) := by
  rw [addCost_eq]
  simp [zoneAt, hz, Config.max16]

theorem zoneAt_addFill (items : List ClaimItem) {z : Nat} (hz : z < 16) {fill : List Nat}
    (hfill : zoneAt fill z ≤ 65535) : zoneAt (addFill fill items) z =
      min 65535 (zoneAt fill z +
        ((items.filter (fun i => hasZone i.zones z)).map (fun i => i.cost.toNat)).sum) := by
  induction items generalizing fill with
  | nil => simp [addFill, hfill]
  | cons i items ih =>
    have hstep := zoneAt_addCost fill i.zones i.cost.toNat hz
    have hrest := ih (fill := (addCost fill i.zones i.cost.toNat).map (min Config.max16))
      (Nat.le_trans (Nat.le_of_eq hstep) (Nat.min_le_left _ _))
    refine hrest.trans ?_
    rw [hstep]
    by_cases hzone : hasZone i.zones z = true
    · simp only [List.filter_cons, hzone, if_true, List.map_cons, List.sum_cons]
      omega
    · simp only [List.filter_cons, hzone, if_false, Bool.false_eq_true, Nat.add_zero]
      omega

/-! ### An abandonment (R110, R111) -/

/-- The frame on the medium stays. -/
structure AirKept (s t : State) : Prop where
  onAir : t.span.onAir = s.span.onAir
  frame : t.span.frame = s.span.frame

namespace AirKept

theorem refl (s : State) : AirKept s s := ⟨rfl, rfl⟩

variable {s t : State}

theorem span (h : AirKept s t) {u : State} {ps : List Part} (k : KeptBut ps t u)
    (hps : Part.span ∉ ps := by decide) : AirKept s u := by
  have hspan : u.span = t.span := k .span hps
  exact ⟨by rw [hspan, h.onAir], by rw [hspan, h.frame]⟩

theorem ite {c : Prop} [Decidable c] {a b : State} (ha : AirKept s a) (hb : AirKept s b) :
    AirKept s (if c then a else b) := by
  split
  · exact ha
  · exact hb

theorem foldl {α : Type} {f : State → α → State} {s : State} (hf : ∀ t x, AirKept s t → AirKept s (f t x))
    (l : List α) {t : State} (h : AirKept s t) : AirKept s (l.foldl f t) := by
  induction l generalizing t with
  | nil => exact h
  | cons x l ih => exact ih (hf t x h)

theorem noteReads (h : AirKept s t) (places : List StorePlace) : AirKept s (t.noteReads places) :=
  h.span (ps := [.faults, .stats]) (by simp)

theorem putMsg (h : AirKept s t) (slot : Nat) (m : Msg) : AirKept s (t.putMsg slot m) :=
  h.span (ps := [.store, .faults, .stats, .parity]) (by simp)

theorem addNotice (h : AirKept s t) (dest : Nat) (body : NoticeBody) : AirKept s (t.addNotice dest body) :=
  .ite ⟨h.onAir, h.frame⟩ ⟨h.onAir, h.frame⟩

theorem release (h : AirKept s t) (slot : Nat) (m : Msg) (o : NoticeBody) : AirKept s (t.release slot m o) := by
  have hspan := t.release_span slot m o
  have k := h.addNotice m.origin o
  exact ⟨by rw [hspan, k.onAir], by rw [hspan, k.frame]⟩

theorem queueUsage (h : AirKept s t) (slot : Nat) : AirKept s (t.queueUsage slot) := by
  refine noteReads ?_ _
  split
  · split
    · exact (h.span (ps := [.queue, .faults, .stats, .parity]) (by simp)).release _ _ _
    · exact h
  · exact h

theorem settle (h : AirKept s t) (slot : Nat) : AirKept s (t.settle slot) := by
  unfold State.settle
  split
  · split
    · refine noteReads (noteReads (.ite (queueUsage ?_ slot) ?_) _) _
      · exact h.span (ps := [.subs, .store, .faults, .stats, .parity]) (by simp)
      · exact h.span (ps := [.subs, .store, .faults, .stats, .parity]) (by simp)
    · exact h
  · exact h

theorem finishUnlinked (h : AirKept s t) (slot : Nat) (m : Msg) (ending : Ending) :
    AirKept s (t.finishUnlinked slot m ending) :=
  settle (h.span (ps := [.store, .tracker, .claims, .faults, .stats, .parity]) (by simp)) slot

theorem revert (h : AirKept s t) (slot : Nat) : AirKept s (t.revert slot) := by
  have wakeAt {u : State} (k : AirKept s u) (w : Nat) : AirKept s (u.wakeAt w) := k.span (ps := [.claims]) (by simp)
  unfold State.revert
  split
  · exact h
  · dsimp only
    split
    · exact wakeAt (h.putMsg _ _) _
    · exact wakeAt (h.putMsg _ _) _
    · exact .ite (h.finishUnlinked _ _ _) (wakeAt (h.putMsg _ _) _)
    · exact h.putMsg _ _
    · exact (h.putMsg _ _).settle _
    · exact h.putMsg _ _

theorem dropItem (h : AirKept s t) (i : Item) : AirKept s (t.dropItem i) :=
  noteReads (revert (h.span (keptBut_releasedFor t i)) _) _

end AirKept

/-- An abandonment of its work, in the obligations' spelling. -/
theorem State.abandonWork_spelled (s : State) (c : Composition) :
    s.abandonWork c =
      let r := c.items.foldl State.dropItem s
      { r with
        claims := { r.claims with
          arbiter := c.savedArbiter, blocked := r.claims.blocked.take c.savedBlocked,
          slot := .idle, startTest := true },
        span := { r.span with onAir := s.span.onAir.map OnAir.abandon } } := by
  have hair : AirKept s (c.items.foldl State.dropItem s) := .foldl (fun _ i k => k.dropItem i) _ (.refl s)
  unfold State.abandonWork
  rw [← hair.onAir]
  rfl

theorem State.abandonWork_frameOnAir (s : State) (c : Composition) : (s.abandonWork c).frameOnAir = s.frameOnAir := by
  have hair : AirKept s (c.items.foldl State.dropItem s) := .foldl (fun _ i k => k.dropItem i) _ (.refl s)
  rw [State.abandonWork_spelled, State.frameOnAir, State.frameOnAir]
  dsimp only
  rw [Option.isSome_map, hair.frame]

/-! ### CLAIMs taken (R102, R110, R114) -/

theorem exec_claim_taken {h : Header} {b : ClaimBody} {s : State} (e : Env) (htaken : s.takes h (.claim b) = true) :
    exec (.claim h e b) s = .next ((s.atFrame h e).takeClaim h.src.toNat b).testStart :=
  congrArg Host.Outcome.next (s.hear_taken h e _ _ htaken)

theorem State.takeClaim_onWindow {s : State} {b : ClaimBody} {w : WindowRec} (src : Nat)
    (hw : s.claims.openWin = some w) (hair : w.air = ⟨b.lap.toNat, b.window.toNat⟩) :
    s.takeClaim src b = if src = s.unit.setup.own then
      (s.withClaims { s.claims with fill := addFill s.claims.fill b.items }).ownClaim
    else (s.withClaims { s.claims with fill := addFill s.claims.fill b.items }).abandon := by
  unfold State.takeClaim
  rw [hw]
  simp [hair]

theorem State.takeClaim_offWindow {s : State} {b : ClaimBody} (src : Nat)
    (h : ∀ w, s.claims.openWin = some w → w.air ≠ ⟨b.lap.toNat, b.window.toNat⟩) :
    s.takeClaim src b = if src = s.unit.setup.own then (s.bump .claimsOffWindow).ownClaim
    else s.bump .claimsOffWindow := by
  unfold State.takeClaim
  cases hw : s.claims.openWin with
  | none => rfl
  | some w => simp [h w hw]

/-- Settles O30: the fill view zone by zone, an abandonment spelled out, and a CLAIM by its window and its source. -/
theorem takenClaimRaisesFill : Obligations.TakenClaimRaisesFill := by
  refine ⟨fun fill items z hz hfill => zoneAt_addFill items hz hfill, fun s hfree => ?_, fun s c hwork => ?_,
    fun h e b s htaken hidle => ?_⟩
  · unfold State.abandon
    split
    · next c hc => exact absurd hc (hfree c).1
    · next c hc => exact absurd hc (hfree c).2
    · rfl
  · intro r u
    have hu : s.abandonWork c = u := s.abandonWork_spelled c
    rw [← hu]
    rcases hwork with hc | hc
    · have habandon : s.abandon = s.abandonWork c := by
        unfold State.abandon
        rw [hc]
      rw [if_neg (by rw [hc]; nofun), habandon]
      exact ⟨rfl, s.abandonWork_frameOnAir c⟩
    · have habandon : s.abandon = (s.abandonWork c).bump .claimsWithdrawn := by
        unfold State.abandon
        rw [hc]
      rw [if_pos hc, habandon]
      exact ⟨rfl, s.abandonWork_frameOnAir c⟩
  · intro v filled freed
    rw [exec_claim_taken e htaken]
    refine ⟨fun ⟨w, hw, hair⟩ => ?_, fun hoff => ?_⟩
    · rw [State.takeClaim_onWindow (s := v) h.src.toNat hw hair]
      refine ⟨fun hother => ?_, fun hown => ?_⟩
      · rw [if_neg (show ¬ h.src.toNat = v.unit.setup.own from hother)]
        rfl
      · rw [if_pos (show h.src.toNat = v.unit.setup.own from hown)]
        rfl
    · rw [State.takeClaim_offWindow (s := v) h.src.toNat hoff]
      refine ⟨fun hother => ?_, fun hown => ?_⟩
      · rw [if_neg (show ¬ h.src.toNat = v.unit.setup.own from hother)]
        exact congrArg Host.Outcome.next (State.testStart_idle _ hidle)
      · rw [if_pos (show h.src.toNat = v.unit.setup.own from hown)]
        rfl

end Sys2Proof.Machine
end

section
/-! Messages taken off their due lists and rested (R69, R70), deadlines met (R134, R135), carried sends (R66, R125 to
R127) and a claim reported sent (R113). -/

namespace Sys2Proof.Machine

/-! ### Leaving a due list (R70, R71) -/

theorem dueKey_injective {w : Nat} {f g : Feed} (h : dueKey w f = dueKey w g) : f = g := by
  have hindex : feedIndex f = feedIndex g := Nat.add_left_cancel h
  revert hindex
  cases f <;> cases g <;> decide

@[simp] theorem State.cursorMoved_store (s : State) (f : Feed) : (s.cursorMoved f).store = s.store :=
  (by simp : KeptBut [.claims] s (s.cursorMoved f)) .store (by simp)

/-- The store after a message has left its list. -/
theorem State.leaveDue_store {s : State} {slot : Nat} {m : Msg} {f : Feed} (hm : s.msg slot = some m)
    (hfeed : m.feed = some f) : (s.leaveDue slot).store =
      let key := dueKey (s.sub m.subIndex).homeWindow f
      { s.store with
        due := tableSet s.store.due [] key ((s.dueList key).erase slot)
        msgs := tablePut s.store.msgs slot { m with feed := none }
        cursors := if s.walks (s.sub m.subIndex).homeWindow && decide (feedGet s.store.cursors f = some slot) then
            feedPut s.store.cursors f (nextIn slot (s.dueList key))
          else s.store.cursors } := by
  unfold State.leaveDue
  rw [hm]
  dsimp only
  rw [hfeed]
  dsimp only
  split <;> simp [State.putCursor]

/-- The message off its list. -/
theorem State.msg_leaveDue_same {s : State} {slot : Nat} {m : Msg} (hm : s.msg slot = some m) :
    (s.leaveDue slot).msg slot = some { m with feed := none } := by
  cases hfeed : m.feed with
  | none => rw [State.leaveDue_none hm hfeed, hm, ← hfeed]
  | some f =>
    rw [State.msg, State.leaveDue_store hm hfeed]
    exact tableFind_put_same _ _ _

/-- A leaving writes no other message. -/
theorem State.msg_leaveDue_other {s : State} {slot k : Nat} {m : Msg} (hm : s.msg slot = some m) (hk : k ≠ slot) :
    (s.leaveDue slot).msg k = s.msg k := by
  cases hfeed : m.feed with
  | none => rw [State.leaveDue_none hm hfeed]
  | some f =>
    rw [State.msg, State.leaveDue_store hm hfeed]
    exact tableFind_put_other _ _ hk

/-- The list left lacks the message. -/
theorem State.dueList_leaveDue_same {s : State} {slot : Nat} {m : Msg} {f : Feed} (hm : s.msg slot = some m)
    (hfeed : m.feed = some f) (hsorted : tableSorted s.store.due = true) :
    (s.leaveDue slot).dueList (dueKey (s.sub m.subIndex).homeWindow f) =
      (s.dueList (dueKey (s.sub m.subIndex).homeWindow f)).erase slot := by
  rw [State.dueList, State.leaveDue_store hm hfeed]
  exact tableGet_set_same _ _ _ _ hsorted

/-- A leaving changes no other list. -/
theorem State.dueList_leaveDue_other {s : State} {slot key : Nat} {m : Msg} (hm : s.msg slot = some m)
    (hkey : ∀ f, m.feed = some f → key ≠ dueKey (s.sub m.subIndex).homeWindow f) :
    (s.leaveDue slot).dueList key = s.dueList key := by
  cases hfeed : m.feed with
  | none => rw [State.leaveDue_none hm hfeed]
  | some f =>
    rw [State.dueList, State.leaveDue_store hm hfeed]
    exact tableGet_set_other _ _ _ (hkey f hfeed)

theorem State.leaveDue_sorted {s : State} {slot : Nat} {m : Msg} (hm : s.msg slot = some m)
    (hsorted : tableSorted s.store.due = true) : tableSorted (s.leaveDue slot).store.due = true := by
  cases hfeed : m.feed with
  | none => rwa [State.leaveDue_none hm hfeed]
  | some f =>
    rw [State.leaveDue_store hm hfeed]
    exact tableSorted_set _ _ _ _ hsorted

@[simp] theorem State.sub_leaveDue (s : State) (slot i : Nat) : (s.leaveDue slot).sub i = s.sub i :=
  State.sub_congr ((by simp : KeptBut [.store, .claims, .faults, .stats, .parity] s (s.leaveDue slot)) .subs
    (by simp)) i

/-- Where no composition is in flight, a leaving does not touch the Claim Builder. -/
theorem State.leaveDue_claims {s : State} (slot : Nat) (h : ∀ c, s.claims.slot ≠ .composing c) :
    (s.leaveDue slot).claims = s.claims := by
  have hleft (m : Msg) (key : Nat) (l : List Nat) (links : List (Option Nat)) :
      (((s.putDue key l).putMsg slot m).relink links).claims = s.claims :=
    (by simp : KeptBut [.store, .faults, .stats, .parity] s _) .claims (by simp)
  unfold State.leaveDue
  split
  · rfl
  · split
    · rfl
    · dsimp only
      split
      · rw [State.cursorMoved_idle]
        · exact hleft _ _ _ _
        · exact fun c hc => absurd ((congrArg ClaimBuilder.slot (hleft _ _ _ _)).symm.trans hc) (h c)
      · exact hleft _ _ _ _

/-! ### Resting a message (R66, R67) -/

/-- A message rested at the tail of the RETRY list of its home window. -/
structure Rested (s t : State) (slot : Nat) (m : Msg) (n : Serial) : Prop where
  msg : t.msg slot = some { m with state := .resting n, feed := some .retry }
  others : ∀ k, k ≠ slot → t.msg k = s.msg k
  tail : t.dueList (dueKey (s.sub m.subIndex).homeWindow .retry) =
    (if m.feed = some .retry then (s.dueList (dueKey (s.sub m.subIndex).homeWindow .retry)).erase slot
      else s.dueList (dueKey (s.sub m.subIndex).homeWindow .retry)) ++ [slot]
  lists : m.feed = none → ∀ k, k ≠ dueKey (s.sub m.subIndex).homeWindow .retry → t.dueList k = s.dueList k

theorem State.dueList_putMsg (s : State) (slot : Nat) (m : Msg) (key : Nat) :
    (s.putMsg slot m).dueList key = s.dueList key := by
  rw [State.dueList, State.putMsg_store]
  rfl

theorem State.rested_rest (s : State) (slot : Nat) (m : Msg) (n : Serial) (hsorted : tableSorted s.store.due = true) :
    Rested s (s.rest slot m n) slot m n := by
  have hput := State.msg_putMsg_same s slot { m with state := .resting n }
  have hleft := State.msg_leaveDue_same hput
  have hputSorted : tableSorted (s.putMsg slot { m with state := .resting n }).store.due = true := by
    rw [State.putMsg_store]
    exact hsorted
  have hleftSorted := State.leaveDue_sorted hput hputSorted
  have hjoined := State.dueList_joinDue_same .retry hleft hleftSorted
  have hother (k : Nat) (hk : k ≠ dueKey (s.sub m.subIndex).homeWindow .retry) :=
    State.dueList_joinDue_other (key := k) .retry hleft (by simpa using hk)
  simp only [State.sub_leaveDue, State.sub_putMsg] at hjoined
  refine ⟨State.msg_joinDue_same .retry hleft, fun k hk => ?_, hjoined.trans (congrArg (· ++ [slot]) ?_),
    fun hfeed k hk => (hother k hk).trans ?_⟩
  · exact (State.msg_joinDue_other .retry hleft hk).trans
      ((State.msg_leaveDue_other hput hk).trans (State.msg_putMsg_other s _ hk))
  · split
    · next hfeed =>
      have h := State.dueList_leaveDue_same hput hfeed hputSorted
      rwa [State.sub_putMsg, State.dueList_putMsg] at h
    · next hfeed =>
      have hkey : ∀ f, m.feed = some f → dueKey (s.sub m.subIndex).homeWindow .retry ≠
          dueKey ((s.putMsg slot { m with state := .resting n }).sub m.subIndex).homeWindow f := fun f hf hkeys => by
        rw [State.sub_putMsg] at hkeys
        exact hfeed (hf.trans (congrArg some (dueKey_injective hkeys).symm))
      exact (State.dueList_leaveDue_other hput hkey).trans (State.dueList_putMsg _ _ _ _)
  · rw [State.leaveDue_none hput hfeed, State.dueList_putMsg]

/-! ### Deadlines (R134, R135) -/

theorem State.meetDeadline_other {s : State} {slot : Nat} {x : Entry} {serial : Serial} (window : Nat)
    (hx : s.entryOf slot = some x) (hstate : x.state ≠ .waiting serial) : s.meetDeadline serial window slot = s := by
  unfold State.meetDeadline
  rw [hx]
  exact if_neg hstate

theorem State.meetDeadline_waiting {s : State} {slot : Nat} {x : Entry} {m : Msg} {serial : Serial} (window : Nat)
    (hx : s.entryOf slot = some x) (hm : s.msg slot = some m) (hstate : x.state = .waiting serial) :
    s.meetDeadline serial window slot =
      ((s.bump .deadlinesExpired).decideDeadline serial window slot m).noteReads
        [.message slot, .subscriber m.subIndex] := by
  unfold State.meetDeadline
  rw [hx]
  dsimp only
  rw [if_pos hstate, State.msg_bump, hm, State.readsOf_some hm]

/-- The decision of R135. -/
theorem State.decideDeadline_eq (s : State) (serial : Serial) (window slot : Nat) (m : Msg) :
    s.decideDeadline serial window slot m =
      if m.sends = s.unit.setup.maxSends then s.finish slot (if m.held = 0 then .undelivered else .partly)
      else if s.unit.setup.lifetime * 75 ≤ (serial - m.accepted).toNat then s.finish slot .expired
      else if m.state = .awaiting then
        s.restAtDeadline slot m (notBeforeAt serial window (s.sub m.subIndex).homeWindow m.sends)
      else s := by
  unfold State.decideDeadline exhausted
  simp only [pastLifetime, decide_eq_true_eq]
  rfl

/-- Settles O35: the decision row by row; the last rests the message. -/
theorem deadlineDecidesInOrder : Obligations.DeadlineDecidesInOrder := by
  intro serial window slot s x m hx hm u home past reads
  refine ⟨State.meetDeadline_other window hx, fun hstate hsends => ?_, fun hstate hsends hpast => ?_,
    fun hstate hsends hpast hawaiting hfeed hsorted => ?_⟩
  · rw [State.meetDeadline_waiting window hx hm hstate, State.decideDeadline_eq]
    exact congrArg (State.noteReads · reads) (if_pos hsends)
  · rw [State.meetDeadline_waiting window hx hm hstate, State.decideDeadline_eq]
    exact congrArg (State.noteReads · reads) ((if_neg hsends).trans (if_pos hpast))
  · intro t
    have ht : t = (u.restAtDeadline slot m (notBeforeAt serial window home m.sends)).noteReads reads := by
      refine (State.meetDeadline_waiting window hx hm hstate).trans ?_
      rw [State.decideDeadline_eq]
      exact congrArg (State.noteReads · reads) ((if_neg hsends).trans ((if_neg hpast).trans (if_pos hawaiting)))
    have hkept : KeptBut [.faults, .stats, .store, .claims, .tracker, .parity] s
        ((u.restAtDeadline slot m (notBeforeAt serial window home m.sends)).noteReads reads) := by simp [u]
    let v := u.withTracker { u.tracker with
      entries := setEntryState slot .between u.tracker.entries
      deadlines := u.tracker.deadlines.filter (fun d => d ≠ slot) }
    have hrested : Rested v (v.rest slot m (notBeforeAt serial window home m.sends)) slot m
        (notBeforeAt serial window home m.sends) := v.rested_rest slot m _ hsorted
    have htracker : (v.rest slot m (notBeforeAt serial window home m.sends)).tracker = v.tracker :=
      (by simp : KeptBut [.store, .claims, .faults, .stats, .parity] v _) .tracker (by simp)
    have hdue (k : Nat) : t.dueList k = (v.rest slot m (notBeforeAt serial window home m.sends)).dueList k := by
      rw [ht, State.dueList, State.noteReads_store]
      rfl
    have hmsg (k : Nat) : t.msg k = (v.rest slot m (notBeforeAt serial window home m.sends)).msg k := by
      rw [ht, State.msg_noteReads]
      rfl
    refine ⟨(hmsg slot).trans hrested.msg, ?_, (hdue _).trans (hrested.tail.trans ?_),
      fun k hk => (hdue k).trans (hrested.lists hfeed k hk), fun k hk =>
        (hmsg k).trans (hrested.others k hk), ht ▸ hkept⟩
    · rw [ht, State.noteReads_tracker]
      exact htracker
    · rw [if_neg (by rw [hfeed]; nofun)]
      rfl

/-! ### Carried sends (R66, R125 to R127) -/

theorem State.toWaiting_deadlines (s : State) (i : Item) (deadline : Serial) :
    (s.toWaiting i deadline).tracker.deadlines = s.tracker.deadlines ++ [i.slot] := by
  unfold State.toWaiting
  dsimp only
  split <;> rfl

/-- A first send's reservation becomes its entry (R123). -/
theorem State.toWaiting_first {s : State} {i : Item} {q : Reservation} (deadline : Serial) (hfirst : i.first = true)
    (hq : s.reservationOf i.slot = some q) :
    (s.toWaiting i deadline).tracker.entries = s.tracker.entries ++ [⟨q.tag, q.seq, i.slot, .waiting deadline⟩] ∧
      (s.toWaiting i deadline).tracker.reservations =
        s.tracker.reservations.filter (fun y => y.slot ≠ i.slot) := by
  unfold State.toWaiting
  rw [hfirst, hq]
  exact ⟨rfl, rfl⟩

/-- A later send takes the entry there is. -/
theorem State.toWaiting_later {s : State} {i : Item} (deadline : Serial) (hlater : i.first = false) :
    (s.toWaiting i deadline).tracker.entries = setEntryState i.slot (.waiting deadline) s.tracker.entries ∧
      (s.toWaiting i deadline).tracker.reservations = s.tracker.reservations := by
  unfold State.toWaiting
  rw [hlater]
  exact ⟨rfl, rfl⟩

theorem keptBut_toWaiting_refl (s : State) (i : Item) (deadline : Serial) :
    KeptBut [.tracker] s (s.toWaiting i deadline) := by simp

/-- A release leaves the reservations of the other slots. -/
theorem State.releaseReservation_tracker (s : State) (slot : Nat) : (s.releaseReservation slot).tracker =
    { s.tracker with reservations := s.tracker.reservations.filter (fun y => y.slot ≠ slot) } := by
  cases hq : s.reservationOf slot with
  | none =>
    have habsent : s.tracker.reservations.filter (fun y => y.slot ≠ slot) = s.tracker.reservations :=
      List.filter_eq_self.2 (by simpa [State.reservationOf] using hq)
    rw [State.releaseReservation_absent hq, habsent]
  | some q =>
    rw [State.releaseReservation_held hq]
    exact ((keptBut_wake (ps := [.claims]) (by simp)).2 (.refl _ _)) .tracker (by simp)

theorem State.releasedFor_tracker (s : State) (i : Item) : (s.releasedFor i).tracker = { s.tracker with
    reservations := if i.first then s.tracker.reservations.filter (fun y => y.slot ≠ i.slot)
      else s.tracker.reservations } := by
  unfold State.releasedFor
  split
  · exact s.releaseReservation_tracker i.slot
  · rfl

/-- The count and the reads of a carried send, after its hand-off. -/
def State.carriedAs (s : State) (i : Item) (m : Msg) : State :=
  (s.noteReads [.message i.slot, .subscriber m.subIndex]).bump .itemsCarried

section Carried

variable {serial : Serial} {s : State} {i : Item} {m : Msg}

theorem State.carryItem_free (hm : s.msg i.slot = none) :
    State.carryItem serial s i = ((s.releasedFor i).noteReads [.message i.slot]).bump .itemsCarried := by
  unfold State.carryItem
  rw [hm, State.readsOf_none hm]
  rfl

theorem State.carryItem_stageClaim {o : Ending} {f : Serial} (hm : s.msg i.slot = some m)
    (hstate : m.state = .finishing o f .claim) : State.carryItem serial s i =
      (((s.releasedFor i).putMsg i.slot (addSend m i)).settle i.slot).carriedAs i m := by
  unfold State.carryItem
  rw [hm, State.readsOf_some hm]
  dsimp only
  rw [hstate]
  rfl

theorem State.carryItem_stageQueue {o : Ending} {f : Serial} (hm : s.msg i.slot = some m)
    (hstate : m.state = .finishing o f .queue) : State.carryItem serial s i =
      ((s.releasedFor i).putMsg i.slot (addSend m i)).carriedAs i m := by
  unfold State.carryItem
  rw [hm, State.readsOf_some hm]
  dsimp only
  rw [hstate]
  rfl

theorem State.carryItem_unclaimed (hm : s.msg i.slot = some m)
    (hstate : m.state = .queued ∨ (∃ nb, m.state = .resting nb) ∨ m.state = .awaiting) : State.carryItem serial s i =
      ((s.releasedFor i).putMsg i.slot (addSend m i)).carriedAs i m := by
  unfold State.carryItem
  rw [hm, State.readsOf_some hm]
  dsimp only
  rcases hstate with hstate | ⟨nb, hstate⟩ | hstate
  · rw [hstate]
    rfl
  · rw [hstate]
    rfl
  · rw [hstate]
    rfl

/-- A CLAIMED message's send, by its recall mark and its subscriber. -/
theorem State.carryItem_claimed {p : PreClaim} (hm : s.msg i.slot = some m) (hstate : m.state = .claimed p) :
    State.carryItem serial s i =
      (if m.recallMark then (s.releasedFor i).finishUnlinked i.slot (addSend m i) .cancelled
      else if (s.sub m.subIndex).twoWay then
        ((s.toWaiting i (s.deadlineOf serial)).putMsg i.slot { addSend m i with state := .awaiting }).leaveDue i.slot
      else if m.sends + 1 < (s.sub m.subIndex).repeatCount then
        (s.releasedFor i).rest i.slot (addSend m i) (serial + 75)
      else (s.releasedFor i).finishUnlinked i.slot (addSend m i) .sentBlind).carriedAs i m := by
  unfold State.carryItem
  rw [hm, State.readsOf_some hm]
  dsimp only
  rw [hstate]
  rfl

end Carried

theorem State.msg_carriedAs (s : State) (i : Item) (m : Msg) (k : Nat) : (s.carriedAs i m).msg k = s.msg k := by
  rw [State.carriedAs, State.msg_bump, State.msg_noteReads]

theorem keptBut_carriedAs (s : State) (i : Item) (m : Msg) : KeptBut [.faults, .stats] s (s.carriedAs i m) := by
  simp [State.carriedAs]

theorem State.dueList_carriedAs (s : State) (i : Item) (m : Msg) (k : Nat) :
    (s.carriedAs i m).dueList k = s.dueList k := by
  rw [State.dueList, keptBut_carriedAs s i m .store (by decide)]
  rfl

theorem State.carriedAs_tracker (s : State) (i : Item) (m : Msg) : (s.carriedAs i m).tracker = s.tracker :=
  keptBut_carriedAs s i m .tracker (by decide)

theorem State.carriedAs_claims (s : State) (i : Item) (m : Msg) : (s.carriedAs i m).claims = s.claims :=
  keptBut_carriedAs s i m .claims (by decide)

/-- Settles O36: the hand-off row by row. -/
theorem carriedItemNextState : Obligations.CarriedItemNextState := by
  refine ⟨fun serial s i hm => State.carryItem_free hm, fun serial s i m hm hsorted => ?_⟩
  intro m1 v r t retry deadline counted
  refine ⟨fun o f hstate => State.carryItem_stageClaim hm hstate, fun o f hstate =>
    State.carryItem_stageQueue hm hstate,
    fun hstate => State.carryItem_unclaimed hm hstate, fun p hstate hmark => ?_, fun p hstate hmark htwo => ?_,
    fun p hstate hmark hone hsends => ?_, fun p hstate hmark hone hsends => ?_⟩
  · exact (State.carryItem_claimed hm hstate).trans (congrArg (State.carriedAs · i m) (if_pos hmark))
  · let w := (s.toWaiting i deadline).putMsg i.slot { m1 with state := .awaiting }
    have ht : t = (w.leaveDue i.slot).carriedAs i m := (State.carryItem_claimed hm hstate).trans
      (congrArg (State.carriedAs · i m) ((if_neg (by rw [hmark]; nofun)).trans (if_pos htwo)))
    have hput : w.msg i.slot = some { m1 with state := .awaiting } := State.msg_putMsg_same _ _ _
    have hwaiting := keptBut_toWaiting_refl s i deadline
    have hsub : w.sub m.subIndex = s.sub m.subIndex :=
      (State.sub_putMsg _ _ _ _).trans (State.sub_congr (hwaiting .subs (by decide)) _)
    have hdue (k : Nat) : w.dueList k = s.dueList k := by
      rw [State.dueList_putMsg, State.dueList, hwaiting .store (by decide)]
      rfl
    have hwsorted : tableSorted w.store.due = true := by
      rw [State.putMsg_store, hwaiting .store (by decide)]
      exact hsorted
    have htracker : t.tracker = (s.toWaiting i deadline).tracker := by
      rw [ht, State.carriedAs_tracker]
      exact (by simp [w] : KeptBut [.store, .claims, .faults, .stats, .parity] (s.toWaiting i deadline)
        (w.leaveDue i.slot)) .tracker (by simp)
    refine ⟨?_, fun f hfeed => ?_, ?_, fun q hfirst hq => ?_, fun hlater => ?_, ?_, fun hidle => ?_⟩
    · rw [ht, State.msg_carriedAs, State.msg_leaveDue_same hput]
    · have hleft := State.dueList_leaveDue_same hput hfeed hwsorted
      rw [ht, State.dueList_carriedAs]
      rwa [show w.sub ({ m1 with state := .awaiting } : Msg).subIndex = r from hsub, hdue] at hleft
    · rw [htracker, State.toWaiting_deadlines]
    · rw [htracker]
      exact State.toWaiting_first deadline hfirst hq
    · rw [htracker]
      exact State.toWaiting_later deadline hlater
    · rw [ht]
      exact (by simp [w] : KeptBut [.faults, .stats, .store, .claims, .tracker, .parity] s (w.leaveDue i.slot)).trans
        ((keptBut_carriedAs _ i m).mono (by simp))
    · have hclaims : w.claims = s.claims :=
        (by simp [w] : KeptBut [.faults, .stats, .store, .tracker, .parity] s w) .claims (by simp)
      rw [ht, State.carriedAs_claims, State.leaveDue_claims i.slot (by rw [hclaims]; exact hidle), hclaims]
  · have ht : t = (v.rest i.slot m1 (serial + 75)).carriedAs i m := (State.carryItem_claimed hm hstate).trans
      (congrArg (State.carriedAs · i m) ((if_neg (by rw [hmark]; nofun)).trans
        ((if_neg (by rw [hone]; nofun)).trans (if_pos hsends))))
    have hvstore : v.store = s.store := State.releasedFor_store s i
    have hvsub : v.sub m1.subIndex = r := State.sub_releasedFor s i m.subIndex
    have hvdue (k : Nat) : v.dueList k = s.dueList k := by
      rw [State.dueList, hvstore]
      rfl
    have hrested := v.rested_rest i.slot m1 (serial + 75) (by rw [hvstore]; exact hsorted)
    refine ⟨?_, ?_, ?_, ?_⟩
    · rw [ht, State.msg_carriedAs]
      exact hrested.msg
    · have htail := hrested.tail
      rw [hvsub, hvdue] at htail
      rw [ht, State.dueList_carriedAs]
      exact htail
    · rw [ht, State.carriedAs_tracker]
      exact ((by simp : KeptBut [.store, .claims, .faults, .stats, .parity] v (v.rest i.slot m1 (serial + 75)))
        .tracker (by simp)).trans (s.releasedFor_tracker i)
    · rw [ht]
      exact (((keptBut_releasedFor s i).mono (by simp)).trans
        (by simp : KeptBut [.faults, .stats, .store, .claims, .tracker, .parity] v _)).trans
          ((keptBut_carriedAs _ i m).mono (by simp))
  · exact (State.carryItem_claimed hm hstate).trans (congrArg (State.carriedAs · i m)
      ((if_neg (by rw [hmark]; nofun)).trans ((if_neg (by rw [hone]; nofun)).trans (if_neg (Nat.not_lt.2 hsends)))))

/-! ### A claim reported sent (R113) -/

/-- The change counts nothing but bytes of bad parity. -/
structure ParityCounted (s t : State) : Prop where
  stat : ∀ d, d ≠ latchStat .storeParity → d ≠ .storeErrors → t.stat d = s.stat d
  sorted : tableSorted s.stats = true → tableSorted t.stats = true

namespace ParityCounted

theorem refl (s : State) : ParityCounted s s := ⟨fun _ _ _ => rfl, id⟩

variable {s t : State}

theorem foldl {α : Type} {f : State → α → State} {s : State} (hf : ∀ t x, ParityCounted s t → ParityCounted s (f t x))
    (l : List α) {t : State} (h : ParityCounted s t) : ParityCounted s (l.foldl f t) := by
  induction l generalizing t with
  | nil => exact h
  | cons x l ih => exact ih (hf t x h)

theorem noteReads (h : ParityCounted s t) (places : List StorePlace) : ParityCounted s (t.noteReads places) := by
  refine foldl (fun u a k => ?_) _ h
  unfold State.parityError
  split
  · refine ⟨fun d hlatch herrors => ?_, fun hs => tableSorted_set _ _ _ _ (tableSorted_set _ _ _ _ (k.sorted hs))⟩
    exact (State.stat_bump_other _ herrors).trans ((State.stat_latch_other u hlatch).trans (k.stat d hlatch herrors))
  · exact k

theorem putMsg (h : ParityCounted s t) (slot : Nat) (m : Msg) : ParityCounted s (t.putMsg slot m) := by
  have hstored : ParityCounted s (t.withStore { t.store with msgs := tablePut t.store.msgs slot m }) :=
    ⟨h.stat, h.sorted⟩
  have hread := hstored.noteReads ([StorePlace.message slot].filter StorePlace.readFirst)
  exact ⟨hread.stat, hread.sorted⟩

theorem markSent (h : ParityCounted s t) (i : Item) : ParityCounted s (t.markSent i) := by
  refine noteReads ?_ _
  split
  · exact h
  · split
    · exact h.putMsg _ _
    · exact h.putMsg _ _
    · exact h

end ParityCounted

/-- The state the Sent request of R65 leaves a message in. -/
def sentState (m : Msg) : MsgState :=
  match m.link, m.state with
  | some _, .queued => .claimed .queued
  | some _, .resting nb => .claimed (.resting nb)
  | _, x => x

/-- A message after the Sent request. -/
def sentMsg (m : Msg) : Msg := { m with state := sentState m }

theorem sentMsg_idem (m : Msg) : sentMsg (sentMsg m) = sentMsg m := by
  have hstate : sentState (sentMsg m) = sentState m := by
    unfold sentMsg sentState
    cases m.link <;> cases m.state <;> rfl
  unfold sentMsg at hstate ⊢
  rw [hstate]

theorem State.msg_markSent (s : State) (i : Item) (k : Nat) :
    (s.markSent i).msg k = if i.slot = k then (s.msg k).map sentMsg else s.msg k := by
  unfold State.markSent
  rw [State.msg_noteReads]
  by_cases hk : i.slot = k
  · subst hk
    rw [if_pos rfl]
    cases hm : s.msg i.slot with
    | none => exact hm
    | some m =>
      dsimp only [Option.map_some]
      cases m with
      | mk state _ _ _ _ _ _ _ _ _ _ _ _ _ _ _ link =>
        cases link with
        | none => cases state <;> exact hm
        | some l =>
          cases state with
          | queued => exact State.msg_putMsg_same _ _ _
          | resting nb => exact State.msg_putMsg_same _ _ _
          | claimed p => exact hm
          | awaiting => exact hm
          | finishing o f g => exact hm
  · rw [if_neg hk]
    cases hm : s.msg i.slot with
    | none => rfl
    | some m =>
      dsimp only
      split
      · exact State.msg_putMsg_other s _ (Ne.symm hk)
      · exact State.msg_putMsg_other s _ (Ne.symm hk)
      · rfl

theorem State.msg_markSent_foldl (items : List Item) (s : State) (k : Nat) :
    (items.foldl State.markSent s).msg k = if ∃ i ∈ items, i.slot = k then (s.msg k).map sentMsg else s.msg k := by
  induction items generalizing s with
  | nil => simp
  | cons i items ih =>
    rw [List.foldl_cons, ih, State.msg_markSent]
    by_cases hi : i.slot = k
    · simp only [hi, if_true, List.mem_cons, exists_eq_or_imp, true_or, Option.map_map]
      split
      · exact congrArg (Option.map · (s.msg k)) (funext sentMsg_idem)
      · rfl
    · simp only [hi, if_false, List.mem_cons, exists_eq_or_imp, false_or]

theorem exec_claimReportedSent (e : Env) {s : State} (hservice : s.unit.engine = .service)
    (hreset : s.unit.resetLow = false) : exec (.claimReportedSent e) s = .next (s.advance e.moment).claimSent :=
  congrArg Host.Outcome.next (if_pos (State.serving_of hservice hreset))

/-- Settles O29: the claim kept, its items marked sent one by one. -/
theorem reportedSentClaimIsKept : Obligations.ReportedSentClaimIsKept := by
  intro e s hservice hreset
  rw [exec_claimReportedSent e hservice hreset]
  refine ⟨fun c w hair hslot hopen => ?_, fun hair => ?_⟩
  · let u : State := (s.advance e.moment).withSpan { s.span with onAir := none }
    let marked := c.items.foldl State.markSent u
    have hsent : (s.advance e.moment).claimSent = u.keepSent w c := by
      unfold State.claimSent
      rw [show (s.advance e.moment).span.onAir = some (.claim false) from hair,
        show (s.advance e.moment).claims = s.claims from rfl]
      dsimp only
      rw [hslot, hopen]
      rfl
    have hmarked : KeptBut [.store, .faults, .stats, .parity] u marked := by simp [marked, keptBut_foldl]
    have hcounted : ParityCounted u marked := .foldl (fun _ i k => k.markSent i) c.items (.refl u)
    have hclaims : marked.claims = s.claims := hmarked .claims (by decide)
    have hmsg (k : Nat) : (u.keepSent w c).msg k =
        if ∃ i ∈ c.items, i.slot = k then (s.msg k).map sentMsg else s.msg k := u.msg_markSent_foldl c.items k
    have hstat (d : Stat) (hlatch : d ≠ latchStat .storeParity) (herrors : d ≠ .storeErrors) :
        marked.stat d = s.stat d := hcounted.stat d hlatch herrors
    refine ⟨u.keepSent w c, congrArg Host.Outcome.next hsent, rfl, hmarked .span (by decide), ?_,
      fun slot m hm hi hlink => ?_, fun slot hi => ?_, fun hsorted => ?_, ?_⟩
    · rw [← hclaims]
      rfl
    · obtain ⟨l, hl⟩ := Option.isSome_iff_exists.1 hlink
      rw [hmsg, if_pos hi, hm, Option.map_some, sentMsg]
      refine ⟨fun hstate => ?_, fun nb hstate => ?_, fun o f g hstate => ?_⟩
      · rw [show sentState m = .claimed .queued by rw [sentState, hl, hstate]]
      · rw [show sentState m = .claimed (.resting nb) by rw [sentState, hl, hstate]]
      · rw [show sentState m = m.state by rw [sentState, hl, hstate]]
    · rw [hmsg, if_neg (fun ⟨i, hmem, hslot⟩ => hi i hmem hslot)]
    · refine ⟨(State.stat_bump_same _ _ (hcounted.sorted hsorted)).trans ?_,
        (State.stat_bump_other _ (by decide)).trans (hstat .claimsVoided (by decide) (by decide))⟩
      rw [← hstat .claimsSent (by decide) (by decide)]
      rfl
    · rw [← hsent]
      simp
  · unfold State.claimSent
    rw [show (s.advance e.moment).span.onAir = some (.claim true) from hair]
    rfl

end Sys2Proof.Machine
end

section
/-! DEPOSITs that are not performed at once (R39 to R42), joining and leaving a due list as one change of the state
(R69 to R71), FINISHING as any block asks for it (R74), and RECALLs (R54 to R59). -/

namespace Sys2Proof.Machine

/-! ### DEPOSITs not performed (R39, R41, R42) -/

theorem exec_deposit_taken {h : Header} {b : DepositBody} {s : State} (e : Env)
    (htaken : s.takes h (.deposit b) = true) :
    exec (.deposit h e b) s = .next ((s.atFrame h e).takeDeposit h.src.toNat b).testStart :=
  congrArg Host.Outcome.next (s.hear_taken h e _ _ htaken)

/-- A DEPOSIT that leaves the Claim Builder alone. -/
theorem exec_deposit_beside {h : Header} {b : DepositBody} {s t : State} {e : Env}
    (htaken : s.takes h (.deposit b) = true) (hidle : s.claims.startTest = false)
    (ht : (s.atFrame h e).takeDeposit h.src.toNat b = t) (hclaims : t.claims = s.claims) :
    exec (.deposit h e b) s = .next t := by
  rw [exec_deposit_taken e htaken, ht, State.testStart_idle t (by rw [hclaims]; exact hidle)]

theorem State.takeDeposit_unowned {s : State} {b : DepositBody} (src : Nat) (h : s.decode b.number.toNat = none) :
    s.takeDeposit src b = s := by
  unfold State.takeDeposit
  rw [h]

theorem State.takeDeposit_pending {s : State} {b : DepositBody} {src index : Nat} {d : Delayed}
    (hindex : s.decode b.number.toNat = some index)
    (hd : s.intake.table.find? (isOf src b.tag.toNat) = some d) (hstatus : d.status = .pending) :
    s.takeDeposit src b = s.addNotice src (.answer (plainAnswer d.tag d.number .hold .none)) := by
  unfold State.takeDeposit
  rw [hindex, hd]
  dsimp only
  rw [hstatus]

theorem State.takeDeposit_complete {s : State} {b : DepositBody} {src index due : Nat} {d : Delayed} {a : Answer}
    (hindex : s.decode b.number.toNat = some index)
    (hd : s.intake.table.find? (isOf src b.tag.toNat) = some d) (hstatus : d.status = .complete a due) :
    s.takeDeposit src b = (s.withIntake { s.intake with
      table := s.intake.table.filter (fun d => !isOf src b.tag.toNat d) }).addNotice src
        (.answer { a with recorded := true }) := by
  unfold State.takeDeposit
  rw [hindex, hd]
  dsimp only
  rw [hstatus]

theorem State.takeDeposit_new {s : State} {b : DepositBody} {src index : Nat}
    (hindex : s.decode b.number.toNat = some index) (hd : s.intake.table.find? (isOf src b.tag.toNat) = none) :
    s.takeDeposit src b = s.newDeposit (delayedOf src index b) := by
  unfold State.takeDeposit
  rw [hindex, hd]

theorem State.mustHold_iff (s : State) (d : Delayed) : s.mustHold d = true ↔
    poolCount s.store.pool ≤ s.unit.setup.holdMark ∨ s.unit.setup.highMark ≤ s.queue.records.length ∨
      ∃ x ∈ s.intake.table, x.status = .pending ∧ x.origin = d.origin ∧ x.number = d.number := by
  rw [State.mustHold, Bool.or_eq_true, Bool.not_eq_true', Bool.eq_false_iff, State.clearToPerform, Ne, Bool.and_eq_true,
    decide_eq_true_iff, decide_eq_true_iff, Classical.not_and_iff_not_or_not,
    Nat.not_lt, Nat.not_lt, or_assoc, List.any_eq_true]
  simp only [isPending, Bool.and_eq_true, decide_eq_true_eq]
  rfl

/-- Settles O47: the sendings that an entry answers, and a new deposit under a hold condition. -/
theorem depositHeldOrAnsweredAgain : Obligations.DepositHeldOrAnsweredAgain := by
  intro h e b s htaken hidle v src plain isIt
  have hv (u : State) (hu : KeptBut [.span, .stats, .intake, .faults] v u) : u.claims = s.claims :=
    hu .claims (by decide)
  refine ⟨fun hnone => exec_deposit_beside htaken hidle (State.takeDeposit_unowned (s := v) _ hnone) rfl,
    fun index hindex => ⟨fun d hd => ⟨fun hstatus => ?_, fun a due hstatus => ?_⟩, fun hnew hmust => ?_⟩⟩
  · exact exec_deposit_beside htaken hidle (State.takeDeposit_pending (s := v) hindex hd hstatus) (hv _ (by simp))
  · exact exec_deposit_beside htaken hidle (State.takeDeposit_complete (s := v) hindex hd hstatus) (hv _ (by simp))
  · have hdeposit : v.takeDeposit src b = v.newDeposit (delayedOf src index b) :=
      State.takeDeposit_new (s := v) hindex hnew
    have hmust' : v.mustHold (delayedOf src index b) = true := (v.mustHold_iff _).2 hmust
    refine ⟨fun hroom => exec_deposit_beside htaken hidle (hdeposit.trans ?_) (hv _ (by simp)),
      fun hfull => exec_deposit_beside htaken hidle (hdeposit.trans ?_) (hv _ (by simp))⟩
    · rw [State.newDeposit, if_pos hmust']
      exact congrArg (State.noteReads · holdReads) (if_pos hroom)
    · rw [State.newDeposit, if_pos hmust']
      exact congrArg (State.noteReads · holdReads) (if_neg (Nat.not_lt.2 hfull))

/-! ### Wake events, walks, and the lists as one change of the state (R69 to R71, R103) -/

theorem State.walks_iff (s : State) (window : Nat) : s.walks window = true ↔
    (∃ c, s.claims.slot = .composing c) ∧ ∃ w, s.claims.openWin = some w ∧ w.air.window = window := by
  unfold State.walks State.claimWindow
  cases s.claims.slot <;> simp

theorem State.wakeAt_walking {s : State} {c : Composition} (hslot : s.claims.slot = .composing c) (window : Nat) :
    s.wakeAt window = s := by
  have hwake : s.wake = s := by
    unfold State.wake
    rw [hslot]
  rw [State.wakeAt, hwake, ite_self]

/-- A join, before the cursor and the wake event. -/
def State.joined (s : State) (slot : Nat) (f : Feed) (m : Msg) : State :=
  let key := dueKey (s.sub m.subIndex).homeWindow f
  ((s.putDue key (s.dueList key ++ [slot])).putMsg slot { m with feed := some f }).rewrite
    ((s.dueList key).getLast?.map StorePlace.message).toList

theorem State.joined_claims (s : State) (slot : Nat) (f : Feed) (m : Msg) : (s.joined slot f m).claims = s.claims :=
  (by simp [State.joined] : KeptBut [.store, .faults, .stats, .parity] s (s.joined slot f m)) .claims (by simp)

theorem State.joined_cursors (s : State) (slot : Nat) (f : Feed) (m : Msg) :
    (s.joined slot f m).store.cursors = s.store.cursors := by
  rw [State.joined, State.rewrite_store, State.putMsg_store]
  simp

theorem State.relink_one (s : State) (x : Option Nat) :
    s.relink [x] = s.rewrite (x.map StorePlace.message).toList := by
  cases x <;> rfl

theorem State.relink_two (s : State) (x y : Option Nat) :
    s.relink [x, y] = s.rewrite ((x.toList ++ y.toList).map StorePlace.message) := by
  cases x <;> cases y <;> rfl

theorem State.joinDue_eq {s : State} {slot : Nat} {m : Msg} (f : Feed) (hm : s.msg slot = some m) :
    s.joinDue slot f =
      if s.walks (s.sub m.subIndex).homeWindow && (feedGet s.store.cursors f).isNone then
        (s.joined slot f m).putCursor f (some slot)
      else (s.joined slot f m).wakeAt (s.sub m.subIndex).homeWindow := by
  unfold State.joinDue
  rw [hm]
  dsimp only
  rw [State.relink_one]
  by_cases hwalk : (s.walks (s.sub m.subIndex).homeWindow && (feedGet s.store.cursors f).isNone) = true
  · rw [if_pos hwalk, if_pos hwalk]
    obtain ⟨⟨c, hc⟩, -⟩ := (s.walks_iff _).1 (Bool.and_eq_true_iff.1 hwalk).1
    have hslot : ((s.joined slot f m).putCursor f (some slot)).claims.slot = .composing c :=
      (congrArg ClaimBuilder.slot (s.joined_claims slot f m)).trans hc
    exact State.wakeAt_walking hslot _
  · rw [if_neg hwalk, if_neg hwalk]
    rfl

/-- A leaving, before the cursor. -/
def State.left (s : State) (slot : Nat) (f : Feed) (m : Msg) : State :=
  let key := dueKey (s.sub m.subIndex).homeWindow f
  ((s.putDue key ((s.dueList key).erase slot)).putMsg slot { m with feed := none }).relink
    [prevIn slot (s.dueList key), nextIn slot (s.dueList key)]

theorem State.leaveDue_eq {s : State} {slot : Nat} {m : Msg} {f : Feed} (hm : s.msg slot = some m)
    (hfeed : m.feed = some f) : s.leaveDue slot =
      if s.walks (s.sub m.subIndex).homeWindow && decide (feedGet s.store.cursors f = some slot) then
        ((s.left slot f m).putCursor f
          (nextIn slot (s.dueList (dueKey (s.sub m.subIndex).homeWindow f)))).cursorMoved f
      else s.left slot f m := by
  unfold State.leaveDue
  rw [hm]
  dsimp only
  rw [hfeed]
  rfl

theorem prevIn_of_not_mem {x : Nat} {l : List Nat} (h : x ∉ l) : prevIn x l = none := by
  induction l with
  | nil => rfl
  | cons y l ih =>
    cases l with
    | nil => rfl
    | cons z l =>
      rw [prevIn, if_neg (fun hz => h (by simp [hz])), ih (fun hmem => h (List.mem_cons_of_mem _ hmem))]

/-- The one before `x` is the last of what precedes it. -/
theorem prevIn_append (x : Nat) (before after : List Nat) (hbefore : x ∉ before) (hafter : x ∉ after) :
    prevIn x (before ++ x :: after) = before.getLast? := by
  induction before with
  | nil =>
    cases after with
    | nil => rfl
    | cons y after =>
      rw [List.nil_append, prevIn, if_neg (fun hy => hafter (by simp [hy])), prevIn_of_not_mem hafter]
      rfl
  | cons y before ih =>
    rw [List.mem_cons, not_or] at hbefore
    cases before with
    | nil => rw [List.cons_append, List.nil_append, prevIn, if_pos rfl]; rfl
    | cons z before =>
      rw [List.cons_append, List.cons_append, prevIn, if_neg (fun hz => hbefore.2 (by simp [hz])),
        ← List.cons_append, ih hbefore.2, List.getLast?_cons_cons]

theorem State.left_of_place {s : State} {slot : Nat} {m : Msg} {f : Feed} {before after : List Nat}
    (hlist : s.dueList (dueKey (s.sub m.subIndex).homeWindow f) = before ++ slot :: after) (hbefore : slot ∉ before)
    (hafter : slot ∉ after) : s.left slot f m =
      ((s.putDue (dueKey (s.sub m.subIndex).homeWindow f) (before ++ after)).putMsg slot
        { m with feed := none }).rewrite ((before.getLast?.toList ++ after.head?.toList).map StorePlace.message) := by
  rw [State.left, State.relink_two, hlist, List.erase_append_right _ hbefore, List.erase_cons_head,
    prevIn_append slot before after hbefore hafter, nextIn_append slot before after hbefore]

theorem State.left_claims (s : State) (slot : Nat) (f : Feed) (m : Msg) : (s.left slot f m).claims = s.claims :=
  (by simp [State.left] : KeptBut [.store, .faults, .stats, .parity] s (s.left slot f m)) .claims (by simp)

theorem State.left_unit (s : State) (slot : Nat) (f : Feed) (m : Msg) : (s.left slot f m).unit = s.unit :=
  (by simp [State.left] : KeptBut [.store, .faults, .stats, .parity] s (s.left slot f m)) .unit (by simp)

theorem State.left_cursors (s : State) (slot : Nat) (f : Feed) (m : Msg) :
    (s.left slot f m).store.cursors = s.store.cursors := by
  rw [State.left, State.relink, State.rewrite_store, State.putMsg_store]
  simp

/-! ### FINISHING (R74) -/

section Finishing

variable {s : State} {slot : Nat} {m : Msg} (o : Ending)

theorem State.finish_finishing (hm : s.msg slot = some m) (hstate : ∃ x f g, m.state = .finishing x f g)
    (note : State → State) : s.finishNoting slot o note = s := by
  obtain ⟨x, f, g, hstate⟩ := hstate
  unfold State.finishNoting
  rw [hm]
  dsimp only
  rw [hstate]

theorem State.finish_unlinked (hm : s.msg slot = some m) (hstate : ∀ x f g, m.state ≠ .finishing x f g)
    (hlink : m.link = none) (note : State → State) :
    s.finishNoting slot o note = (note (s.enterFinishing slot m o)).settle slot := by
  unfold State.finishNoting
  rw [hm]
  dsimp only
  rw [hlink]
  cases hs : m.state with
  | finishing x f g => exact absurd hs (hstate x f g)
  | _ => rfl

theorem State.finish_composed (hm : s.msg slot = some m) (hstate : m.state = .queued ∨ ∃ nb, m.state = .resting nb)
    (hlink : m.link.isSome = true) (note : State → State) :
    s.finishNoting slot o note = (note (s.enterFinishing slot m o)).abandon := by
  obtain ⟨l, hl⟩ := Option.isSome_iff_exists.1 hlink
  unfold State.finishNoting
  rw [hm]
  dsimp only
  rw [hl]
  rcases hstate with hs | ⟨nb, hs⟩
  · rw [hs]
  · rw [hs]

theorem State.finish_claimed (hm : s.msg slot = some m) (hstate : m.state = .awaiting ∨ ∃ p, m.state = .claimed p)
    (hlink : m.link.isSome = true) (note : State → State) :
    s.finishNoting slot o note = note (s.enterFinishing slot m o) := by
  obtain ⟨l, hl⟩ := Option.isSome_iff_exists.1 hlink
  unfold State.finishNoting
  rw [hm]
  dsimp only
  rw [hl]
  rcases hstate with hs | ⟨p, hs⟩
  · rw [hs]
  · rw [hs]

end Finishing

/-! ### The walk of a RECALL (R54) -/

theorem State.hasSeq_iff (s : State) (seq k : Nat) :
    s.hasSeq seq k = true ↔ ∃ m, s.msg k = some m ∧ m.seq = seq := by
  unfold State.hasSeq
  cases s.msg k <;> simp

theorem State.hasSeq_false {s : State} {seq k : Nat} (h : ∀ m, s.msg k = some m → m.seq ≠ seq) :
    s.hasSeq seq k = false := by
  rw [← Bool.not_eq_true, State.hasSeq_iff]
  exact fun ⟨m, hm, hseq⟩ => h m hm hseq

theorem State.walkSeq_past {s : State} {seq : Nat} {l : List Nat} (fuel : Nat)
    (h : ∀ k ∈ l.take fuel, s.hasSeq seq k = false) : s.walkSeq seq fuel l = l.take fuel := by
  induction fuel generalizing l with
  | zero => cases l <;> rfl
  | succ fuel ih =>
    cases l with
    | nil => rfl
    | cons k l =>
      rw [List.take_succ_cons] at h ⊢
      rw [State.walkSeq, h k List.mem_cons_self, if_neg (by nofun), ih (fun j hj => h j (List.mem_cons_of_mem _ hj))]

theorem State.walkSeq_found {s : State} {seq slot : Nat} {before : List Nat} (after : List Nat) {fuel : Nat}
    (hlen : before.length < fuel) (hbefore : ∀ k ∈ before, s.hasSeq seq k = false) (hslot : s.hasSeq seq slot = true) :
    s.walkSeq seq fuel (before ++ slot :: after) = before ++ [slot] := by
  induction before generalizing fuel with
  | nil =>
    cases fuel with
    | zero => cases hlen
    | succ fuel => rw [List.nil_append, State.walkSeq, hslot, if_pos rfl]; rfl
  | cons k before ih =>
    cases fuel with
    | zero => cases hlen
    | succ fuel =>
      rw [List.cons_append, State.walkSeq, hbefore k List.mem_cons_self, if_neg (by nofun),
        ih (Nat.lt_of_succ_lt_succ hlen) (fun j hj => hbefore j (List.mem_cons_of_mem _ hj))]
      rfl

theorem State.findSeq_found {s : State} {seq slot : Nat} {before : List Nat} (after : List Nat)
    (hlen : before.length < 16) (hbefore : ∀ k ∈ before, s.hasSeq seq k = false) (hslot : s.hasSeq seq slot = true) :
    s.findSeq (before ++ slot :: after) seq = some slot := by
  obtain ⟨n, hn⟩ := Nat.exists_eq_add_of_lt hlen
  have htake : (before ++ slot :: after).take Config.pendingCap = before ++ slot :: after.take n := by
    rw [show Config.pendingCap = before.length + (n + 1) from hn, List.take_length_add_append, List.take_succ_cons]
  rw [State.findSeq, htake, List.find?_append, List.find?_eq_none.2 (by simpa using hbefore), Option.none_or,
    List.find?_cons_of_pos hslot]

/-! ### RECALLs (R54 to R59) -/

theorem exec_recall_taken {h : Header} {b : RecallBody} {s : State} (e : Env)
    (htaken : s.takes h (.recall b) = true) :
    exec (.recall h e b) s = .next ((s.atFrame h e).takeRecall h.src.toNat b).testStart :=
  congrArg Host.Outcome.next (s.hear_taken h e _ _ htaken)

/-- A RECALL that leaves the Claim Builder alone. -/
theorem exec_recall_beside {h : Header} {b : RecallBody} {s t : State} {e : Env}
    (htaken : s.takes h (.recall b) = true) (hidle : s.claims.startTest = false)
    (ht : (s.atFrame h e).takeRecall h.src.toNat b = t) (hclaims : t.claims = s.claims) :
    exec (.recall h e b) s = .next t := by
  rw [exec_recall_taken e htaken, ht, State.testStart_idle t (by rw [hclaims]; exact hidle)]

theorem State.takeRecall_unowned {s : State} {b : RecallBody} (src : Nat) (h : s.decode b.number.toNat = none) :
    s.takeRecall src b = s := by
  unfold State.takeRecall
  rw [h]

theorem State.takeRecall_notFound {s : State} {b : RecallBody} {index : Nat} (src : Nat)
    (hindex : s.decode b.number.toNat = some index)
    (hnone : ∀ k ∈ (s.sub index).pendingList.take 16, s.hasSeq b.seq.toNat k = false) :
    s.takeRecall src b = (s.addNotice src (.recallAnswer b.number.toNat b.seq.toNat .notFound 0)).noteReads
      (.subscriber index :: ((s.sub index).pendingList.take 16).map StorePlace.message) := by
  have hfind : s.findSeq (s.sub index).pendingList b.seq.toNat = none :=
    List.find?_eq_none.2 (fun k hk => Bool.eq_false_iff.1 (hnone k hk))
  have hwalk : s.walkSeq b.seq.toNat Config.pendingCap (s.sub index).pendingList = (s.sub index).pendingList.take 16 :=
    State.walkSeq_past 16 hnone
  unfold State.takeRecall State.recallReads
  rw [hindex]
  dsimp only
  rw [hfind, hwalk]

theorem State.takeRecall_found {s : State} {b : RecallBody} {index slot : Nat} {before after : List Nat} {m : Msg}
    (src : Nat) (hindex : s.decode b.number.toNat = some index)
    (hlist : (s.sub index).pendingList = before ++ slot :: after) (hlen : before.length < 16)
    (hbefore : ∀ k ∈ before, s.hasSeq b.seq.toNat k = false) (hm : s.msg slot = some m) (hseq : m.seq = b.seq.toNat) :
    s.takeRecall src b = (s.recallMsg src b slot m).noteReads
      (.subscriber index :: (before ++ [slot]).map StorePlace.message) := by
  have hslot : s.hasSeq b.seq.toNat slot = true := (s.hasSeq_iff _ _).2 ⟨m, hm, hseq⟩
  have hwalk : s.walkSeq b.seq.toNat Config.pendingCap (before ++ slot :: after) = before ++ [slot] :=
    State.walkSeq_found after hlen hbefore hslot
  unfold State.takeRecall State.recallReads
  rw [hindex]
  dsimp only
  rw [hlist, State.findSeq_found after hlen hbefore hslot, hwalk]
  dsimp only
  rw [hm]

theorem State.recallMsg_open {s : State} {m : Msg}
    (hstate : m.state = .queued ∨ (∃ nb, m.state = .resting nb) ∨ m.state = .awaiting) (src : Nat) (b : RecallBody)
    (slot : Nat) : s.recallMsg src b slot m = s.finishNoting slot .cancelled
      (fun t => t.addNotice src (.recallAnswer b.number.toNat b.seq.toNat .cancelled m.held)) := by
  unfold State.recallMsg
  dsimp only
  rcases hstate with hs | ⟨nb, hs⟩ | hs
  · rw [hs]
  · rw [hs]
  · rw [hs]

/-- The message as it enters FINISHING (R74). -/
def State.finishingMsg (s : State) (m : Msg) (o : Ending) : Msg :=
  { m with state := .finishing o s.clock.serial (if m.link.isSome then .claim else .queue) }

/-- The state as a message enters FINISHING, before it leaves its due list. -/
def State.unentered (s : State) (slot : Nat) (m : Msg) (o : Ending) : State :=
  (s.putMsg slot (s.finishingMsg m o)).removeEntry slot

theorem State.enterFinishing_eq (s : State) (slot : Nat) (m : Msg) (o : Ending) :
    s.enterFinishing slot m o = ((s.unentered slot m o).leaveDue slot).noteReads [.serial] := rfl

theorem State.msg_unentered_same (s : State) (slot : Nat) (m : Msg) (o : Ending) :
    (s.unentered slot m o).msg slot = some (s.finishingMsg m o) :=
  (State.msg_removeEntry _ _ _).trans (State.msg_putMsg_same _ _ _)

theorem keptBut_unentered (s : State) (slot : Nat) (m : Msg) (o : Ending) :
    KeptBut [.store, .tracker, .claims, .faults, .stats, .parity] s (s.unentered slot m o) := by
  simp [State.unentered]

theorem State.sub_unentered (s : State) (slot : Nat) (m : Msg) (o : Ending) (i : Nat) :
    (s.unentered slot m o).sub i = s.sub i :=
  State.sub_congr (keptBut_unentered s slot m o .subs (by decide)) i

theorem State.unentered_store (s : State) (slot : Nat) (m : Msg) (o : Ending) :
    (s.unentered slot m o).store = { s.store with msgs := tablePut s.store.msgs slot (s.finishingMsg m o) } :=
  ((keptBut_removeEntry (ps := [.tracker, .claims]) slot (by simp)).2 (.refl _ _) .store (by decide)).trans
    (s.putMsg_store slot (s.finishingMsg m o))

theorem State.dueList_unentered (s : State) (slot : Nat) (m : Msg) (o : Ending) (k : Nat) :
    (s.unentered slot m o).dueList k = s.dueList k := by
  rw [State.dueList, State.unentered_store]
  rfl

theorem State.enterFinishing_tracker (s : State) (slot : Nat) (m : Msg) (o : Ending) :
    (s.enterFinishing slot m o).tracker = if (s.entryOf slot).isSome then { s.tracker with
      entries := s.tracker.entries.filter (fun x => x.slot ≠ slot),
      deadlines := s.tracker.deadlines.filter (fun x => x ≠ slot) } else s.tracker := by
  have hput : (s.putMsg slot (s.finishingMsg m o)).tracker = s.tracker := State.putMsg_tracker _ _ _
  have hentry : (s.putMsg slot (s.finishingMsg m o)).entryOf slot = s.entryOf slot := by
    rw [State.entryOf, hput]
    rfl
  have hleft : (s.enterFinishing slot m o).tracker = (s.unentered slot m o).tracker :=
    (by simp [State.enterFinishing_eq] : KeptBut [.store, .claims, .faults, .stats, .parity] (s.unentered slot m o)
      (s.enterFinishing slot m o)) .tracker (by decide)
  rw [hleft, State.unentered]
  split
  · next h => rw [State.removeEntry_tracker _ _ (by rw [hentry]; exact h), hput]
  · next h => rw [State.removeEntry_absent _ _ (by rw [hentry]; exact Option.not_isSome_iff_eq_none.1 h), hput]

/-- What entering FINISHING writes of the messages and the due lists. -/
theorem State.enterFinishing_lists {s : State} {m : Msg} (slot : Nat) (o : Ending)
    (hsorted : tableSorted s.store.due = true) :
    (s.enterFinishing slot m o).msg slot = some { s.finishingMsg m o with feed := none } ∧
    (∀ k, k ≠ slot → (s.enterFinishing slot m o).msg k = s.msg k) ∧
    (∀ f, m.feed = some f → (s.enterFinishing slot m o).dueList (dueKey (s.sub m.subIndex).homeWindow f) =
      (s.dueList (dueKey (s.sub m.subIndex).homeWindow f)).erase slot) ∧
    ∀ k, (∀ f, m.feed = some f → k ≠ dueKey (s.sub m.subIndex).homeWindow f) →
      (s.enterFinishing slot m o).dueList k = s.dueList k := by
  have hput := s.msg_unentered_same slot m o
  have hdue (k : Nat) : (s.enterFinishing slot m o).dueList k = ((s.unentered slot m o).leaveDue slot).dueList k := by
    rw [State.enterFinishing_eq, State.dueList, State.noteReads_store]
    rfl
  have hhome : (s.unentered slot m o).sub (s.finishingMsg m o).subIndex = s.sub m.subIndex :=
    s.sub_unentered slot m o m.subIndex
  refine ⟨?_, fun k hk => ?_, fun f hfeed => ?_, fun k hk => ?_⟩
  · rw [State.enterFinishing_eq, State.msg_noteReads, State.msg_leaveDue_same hput]
  · rw [State.enterFinishing_eq, State.msg_noteReads, State.msg_leaveDue_other hput hk, State.unentered,
      State.msg_removeEntry, State.msg_putMsg_other _ _ hk]
  · have hleft := State.dueList_leaveDue_same hput hfeed (by rw [State.unentered_store]; exact hsorted)
    rw [hhome, State.dueList_unentered] at hleft
    rw [hdue, hleft]
  · rw [hdue, State.dueList_leaveDue_other hput (fun f hfeed => by rw [hhome]; exact hk f hfeed),
      State.dueList_unentered]

/-- A walk's cursor follows the message that leaves. -/
theorem State.leaveDue_follows {s : State} {slot : Nat} {m : Msg} {f : Feed} {c : Composition} {next : Option Nat}
    (hm : s.msg slot = some m) (hfeed : m.feed = some f) (hslot : s.claims.slot = .composing c)
    (hwindow : ∃ w, s.claims.openWin = some w ∧ w.air.window = (s.sub m.subIndex).homeWindow)
    (hcursor : feedGet s.store.cursors f = some slot)
    (hnext : nextIn slot (s.dueList (dueKey (s.sub m.subIndex).homeWindow f)) = next) :
    s.leaveDue slot = ((s.left slot f m).putCursor f next).cursorMoved f := by
  have hwalks : s.walks (s.sub m.subIndex).homeWindow = true := (s.walks_iff _).2 ⟨⟨c, hslot⟩, hwindow⟩
  rw [State.leaveDue_eq hm hfeed, hwalks, hnext, if_pos (by simp [hcursor])]

theorem State.leaveDue_unfollowed {s : State} {slot : Nat} {m : Msg} {f : Feed} (hm : s.msg slot = some m)
    (hfeed : m.feed = some f)
    (h : ¬ ((∃ c, s.claims.slot = .composing c) ∧
      (∃ w, s.claims.openWin = some w ∧ w.air.window = (s.sub m.subIndex).homeWindow) ∧
        feedGet s.store.cursors f = some slot)) : s.leaveDue slot = s.left slot f m := by
  rw [State.leaveDue_eq hm hfeed, if_neg]
  rw [Bool.and_eq_true, State.walks_iff, decide_eq_true_eq, and_assoc]
  exact h

/-- Settles O49: the request for FINISHING, the leaving of a due list, and a RECALL by the state of what it finds. -/
theorem recallAnsweredByState : Obligations.RecallAnsweredByState := by
  refine ⟨fun s slot m o hm hsorted => ?_, fun u slot m o => rfl,
    fun u slot => ⟨u.removeEntry_absent slot, fun x hx => ?_⟩, fun u slot m hm => ⟨State.leaveDue_none hm, ?_⟩,
    fun h e b s htaken hidle => ?_⟩
  · obtain ⟨hsame, hother, hleft, hlists⟩ := State.enterFinishing_lists (m := m) slot o hsorted
    refine ⟨rfl, hsame, hother, s.enterFinishing_tracker slot m o, hleft, hlists, by simp,
      fun hstate => State.finish_finishing o hm hstate id, fun hstate => ⟨fun hlink => ?_, fun hlink hs => ?_,
        fun hlink hs => ?_⟩⟩
    · exact State.finish_unlinked o hm hstate hlink id
    · exact State.finish_composed o hm hs hlink id
    · exact State.finish_claimed o hm hs hlink id
  · unfold State.removeEntry
    rw [hx]
  · intro f before after hfeed home hlist hbefore hafter left moved follows
    have hleft : u.left slot f m = left := State.left_of_place hlist hbefore hafter
    have hmoved : left.putCursor f after.head? = moved := by
      rw [← hleft, State.putCursor, State.left_cursors, hleft]
      rfl
    have hclaims : moved.claims = u.claims := by
      rw [← hmoved, ← hleft]
      exact u.left_claims slot f m
    have hcursor : feedGet moved.store.cursors f = after.head? := feedGet_feedPut_same _ _ _
    have hnext : nextIn slot (u.dueList (dueKey (u.sub m.subIndex).homeWindow f)) = after.head? := by
      rw [hlist, nextIn_append slot before after hbefore]
    refine ⟨fun c hc hfollows => ⟨fun hstays => ?_, fun hend hchosen g a hg => ?_⟩, fun hnot => ?_⟩
    · rw [State.leaveDue_follows hm hfeed hc hfollows.1 hfollows.2 hnext, hleft, hmoved]
      refine State.cursorMoved_idle _ _ fun d hd hmet => hstays ?_
      rw [hclaims, hc, ClaimSlot.composing.injEq] at hd
      rw [hcursor, List.head?_eq_none_iff] at hmet
      exact ⟨hmet.2, hd ▸ hmet.1⟩
    · have hunit : moved.unit = u.unit := by
        rw [← hmoved, ← hleft]
        exact u.left_unit slot f m
      rw [State.leaveDue_follows hm hfeed hc hfollows.1 hfollows.2 hnext, hleft, hmoved,
        State.cursorMoved_chooses moved f c (by rw [hclaims]; exact hc) hchosen (by rw [hcursor, hend]; rfl),
        State.chooseFeed_eq, hclaims, hunit, hg, ← hunit]
      rfl
    · rw [State.leaveDue_unfollowed hm hfeed hnot, hleft]
  · intro v answer
    have hanswer (code : RecallCode) (held : PartMask) {u : State} (hu : u.claims = s.claims) (l : List StorePlace) :
        ((answer code held u).noteReads l).claims = s.claims :=
      ((by simp [answer] : KeptBut [.span, .stats, .faults] u ((answer code held u).noteReads l)) .claims
        (by decide)).trans hu
    refine ⟨fun hnone => exec_recall_beside htaken hidle (State.takeRecall_unowned (s := v) _ hnone) rfl,
      fun index hindex => ?_⟩
    intro noted
    refine ⟨fun hnone => ?_, fun before slot after m hlist hlen => ?_⟩
    · exact exec_recall_beside htaken hidle (State.takeRecall_notFound (s := v) _ hindex
        fun k hk => State.hasSeq_false (hnone k hk)) (hanswer _ _ (u := v) rfl _)
    intro found hbefore hm hseq
    have hfound := State.takeRecall_found (s := v) h.src.toNat hindex hlist hlen
      (fun k hk => State.hasSeq_false (hbefore k hk)) hm hseq
    refine ⟨fun o f g hstate => ?_, fun p hstate => ?_, fun hstate => ⟨fun hlink => ?_, fun hlink hs => ?_⟩⟩
    · have hrow : v.recallMsg h.src.toNat b slot m = answer .tooLate m.held v := by
        unfold State.recallMsg
        dsimp only
        rw [hstate]
      rw [hrow] at hfound
      exact exec_recall_beside htaken hidle hfound (hanswer _ _ (u := v) rfl _)
    · have hrow : v.recallMsg h.src.toNat b slot m = answer .noted m.held
          (if m.recallMark then v else v.putMsg slot { m with recallMark := true }) := by
        unfold State.recallMsg
        dsimp only
        rw [hstate]
      rw [hrow] at hfound
      refine exec_recall_beside htaken hidle hfound (hanswer _ _ ?_ _)
      split
      · rfl
      · exact (by simp : KeptBut [.store, .faults, .stats, .parity] v _) .claims (by decide)
    · rw [exec_recall_taken e htaken, hfound, State.recallMsg_open hstate, State.finish_unlinked (s := v) .cancelled hm
        (by rcases hstate with h | ⟨nb, h⟩ | h <;> rw [h] <;> nofun) hlink]
    · rw [exec_recall_taken e htaken, hfound, State.recallMsg_open hstate, State.finish_composed (s := v) .cancelled hm
        (by rcases hstate with h | h | h
            · exact .inl h
            · exact .inr h
            · exact absurd h hs) hlink]

end Sys2Proof.Machine
end

section
/-! The run that performs delayed deposits (R50), the discard of a completed one (R51), and a DEPOSIT performed at once
(R42, R43, R47 to R49, R149, R158). -/

namespace Sys2Proof.Machine

/-! ### The run of delayed deposits (R50) -/

theorem State.clearToPerform_iff (s : State) : s.clearToPerform = true ↔
    s.unit.setup.holdMark < poolCount s.store.pool ∧ s.queue.records.length < s.unit.setup.highMark := by
  rw [State.clearToPerform, Bool.and_eq_true, decide_eq_true_iff, decide_eq_true_iff]
  rfl

/-- The PENDING entries, oldest first. -/
def State.pendings (s : State) : List Delayed := s.intake.table.filter isPending

/-- An entry performed within the run, and the marks read before the next. -/
def State.performed (s : State) (d : Delayed) : State := (s.performEntry d).noteReads holdReads

/-- The table has at most one entry for a key. -/
def tableKeyed (l : List Delayed) : Prop := l.Pairwise (fun a b => ¬ (a.origin = b.origin ∧ a.tag = b.tag))

/-- An entry that becomes COMPLETE. -/
def completed (d : Delayed) (status : DelayedStatus) (x : Delayed) : Delayed :=
  if isOf d.origin d.tag x then { x with status := status } else x

theorem completed_eq (d : Delayed) (status : DelayedStatus) : completed d status =
    fun x => if x.origin = d.origin ∧ x.tag = d.tag then { x with status := status } else x := by
  funext x
  simp only [completed, isOf, decide_eq_true_eq]

theorem State.performEntry_eq (s : State) (d : Delayed) : s.performEntry d =
    (s.perform d).1.withIntake { (s.perform d).1.intake with
      table := (s.perform d).1.intake.table.map
        (completed d (.complete (s.perform d).2 (s.now + s.unit.setup.discardTime * 1000))) } := by
  have hkept : KeptBut [.queue, .stats, .subs, .store, .claims, .faults, .parity] s (s.perform d).1 := by simp
  have hnow : (s.perform d).1.now = s.now := hkept .now (by decide)
  have hunit : (s.perform d).1.unit = s.unit := hkept .unit (by decide)
  unfold State.performEntry
  dsimp only
  rw [hnow, hunit]
  rfl

theorem State.performed_table (s : State) (d : Delayed) : (s.performed d).intake.table =
    s.intake.table.map (completed d (.complete (s.perform d).2 (s.now + s.unit.setup.discardTime * 1000))) := by
  have hintake : (s.perform d).1.intake = s.intake :=
    (by simp : KeptBut [.queue, .stats, .subs, .store, .claims, .faults, .parity] s (s.perform d).1) .intake (by decide)
  rw [State.performed, State.noteReads_intake, State.performEntry_eq, State.withIntake_intake, hintake]

theorem filter_completed (l : List Delayed) (d : Delayed) (a : Answer) (due : Nat) :
    (l.map (completed d (.complete a due))).filter isPending =
      (l.filter isPending).filter (fun x => !isOf d.origin d.tag x) := by
  induction l with
  | nil => rfl
  | cons x l ih =>
    rw [List.map_cons, List.filter_cons, ih, List.filter_cons]
    by_cases hof : isOf d.origin d.tag x = true
    · have hdone : isPending (completed d (.complete a due) x) = false := by simp [completed, hof, isPending]
      rw [hdone, if_neg (by nofun)]
      split
      · rw [List.filter_cons, hof, Bool.not_true, if_neg (by nofun)]
      · rfl
    · have hsame : completed d (.complete a due) x = x := if_neg hof
      rw [hsame]
      split
      · rw [List.filter_cons, Bool.eq_false_iff.2 hof, Bool.not_false, if_pos rfl]
      · rfl

theorem tableKeyed_completed {l : List Delayed} (h : tableKeyed l) (d : Delayed) (status : DelayedStatus) :
    tableKeyed (l.map (completed d status)) := by
  have hkey (x : Delayed) : (completed d status x).origin = x.origin ∧ (completed d status x).tag = x.tag := by
    unfold completed
    split <;> exact ⟨rfl, rfl⟩
  refine List.pairwise_map.2 (h.imp fun hab => ?_)
  rwa [(hkey _).1, (hkey _).1, (hkey _).2, (hkey _).2]

/-- An entry performed leaves the PENDING entries behind it. -/
theorem State.pendings_performed {s : State} {d : Delayed} {rest : List Delayed} (hkeyed : tableKeyed s.intake.table)
    (hd : s.pendings = d :: rest) : (s.performed d).pendings = rest := by
  have hsub : (d :: rest).Sublist s.intake.table := hd ▸ List.filter_sublist
  have hother : ∀ x ∈ rest, isOf d.origin d.tag x = false := fun x hx => decide_eq_false fun hxd =>
    (List.pairwise_cons.1 (hkeyed.sublist hsub)).1 x hx ⟨hxd.1.symm, hxd.2.symm⟩
  have hself : isOf d.origin d.tag d = true := decide_eq_true ⟨rfl, rfl⟩
  rw [State.pendings, State.performed_table, filter_completed, show s.intake.table.filter isPending = d :: rest from hd,
    List.filter_cons, hself, Bool.not_true, if_neg (by nofun)]
  exact List.filter_eq_self.2 fun x hx => by rw [hother x hx]; rfl

/-- The run, as the performing of the first so many PENDING entries. -/
theorem State.runEntries_spec (fuel : Nat) (s : State) (hkeyed : tableKeyed s.intake.table)
    (hfuel : s.pendings.length ≤ fuel) : ∃ k, k ≤ s.pendings.length ∧
      State.runEntries fuel s = (if k = s.pendings.length then (s.pendings.take k).foldl State.performed s
        else ((s.pendings.take k).foldl State.performed s).noteReads holdReads) ∧
      (∀ j < k, ((s.pendings.take j).foldl State.performed s).clearToPerform = true) ∧
      (k = s.pendings.length ∨ ¬ ((s.pendings.take k).foldl State.performed s).clearToPerform = true) := by
  induction fuel generalizing s with
  | zero =>
    have hnone : s.pendings = [] := List.length_eq_zero_iff.1 (Nat.le_zero.1 hfuel)
    exact ⟨0, Nat.zero_le _, by rw [hnone]; rfl, nofun, .inl (by rw [hnone]; rfl)⟩
  | succ fuel ih =>
    have hfind : s.intake.table.find? isPending = s.pendings.head? := List.head?_filter.symm
    rw [State.runEntries, hfind]
    cases hd : s.pendings with
    | nil => exact ⟨0, Nat.le_refl _, rfl, nofun, .inl rfl⟩
    | cons d rest =>
      dsimp only [List.head?_cons]
      by_cases hclear : s.clearToPerform = true
      · have hrest : (s.performed d).pendings = rest := State.pendings_performed hkeyed hd
        have hnext : tableKeyed (s.performed d).intake.table := by
          rw [State.performed_table]
          exact tableKeyed_completed hkeyed _ _
        obtain ⟨k, hk, hrun, hbefore, hstop⟩ := ih (s.performed d) hnext (by
          rw [hrest]
          rw [hd] at hfuel
          exact Nat.le_of_succ_le_succ hfuel)
        rw [hrest] at hk hrun hbefore hstop
        refine ⟨k + 1, Nat.succ_le_succ hk, ?_, fun j hj => ?_, ?_⟩
        · rw [if_pos hclear]
          simpa [State.performed] using hrun
        · cases j with
          | zero => exact hclear
          | succ j => exact hbefore j (Nat.lt_of_succ_lt_succ hj)
        · exact hstop.imp (fun h => by rw [h]; rfl) id
      · exact ⟨0, Nat.zero_le _, by rw [if_neg hclear]; rfl, nofun, .inr hclear⟩

theorem exec_delayedDepositRun_serving {s : State} (e : Env) (hservice : s.unit.engine = .service)
    (hreset : s.unit.resetLow = false) :
    exec (.delayedDepositRun e) s = .next (s.advance e.moment).delayedRun.testStart :=
  congrArg Host.Outcome.next (if_pos (State.serving_of hservice hreset))

/-! ### New deposits that nothing holds (R42) -/

theorem State.takeDeposit_perform {s : State} {b : DepositBody} {src index : Nat}
    (hindex : s.decode b.number.toNat = some index)
    (hnew : ∀ d ∈ s.intake.table, ¬ (d.origin = src ∧ d.tag = b.tag.toNat))
    (hpool : s.unit.setup.holdMark < poolCount s.store.pool)
    (hqueue : s.queue.records.length < s.unit.setup.highMark)
    (hpending : ∀ d ∈ s.intake.table, d.status = .pending → ¬ (d.origin = src ∧ d.number = b.number.toNat)) :
    s.takeDeposit src b = ((s.perform (delayedOf src index b)).1.addNotice src
      (.answer (s.perform (delayedOf src index b)).2)).noteReads holdReads := by
  have hfind : s.intake.table.find? (isOf src b.tag.toNat) = none :=
    List.find?_eq_none.2 fun d hd => by
      rw [isOf, decide_eq_true_iff]
      exact hnew d hd
  have hheld : ¬ s.mustHold (delayedOf src index b) = true := by
    rw [State.mustHold_iff]
    rintro (h | h | ⟨d, hd, hstatus, hkey⟩)
    · exact absurd hpool (Nat.not_lt.2 h)
    · exact absurd hqueue (Nat.not_lt.2 h)
    · exact hpending d hd hstatus hkey
  rw [State.takeDeposit_new hindex hfind, State.newDeposit, if_neg hheld]
  rfl

/-- Settles O48: the run by induction on its fuel; a discard, and a run without a report, by their definitions. -/
theorem delayedRunPerformsOldestFirst : Obligations.DelayedRunPerformsOldestFirst := by
  refine ⟨fun e s hservice hreset hdue hkeyed => ?_, fun h e b s index htaken hindex hnew hpool hqueue hpending => ?_,
    fun e s hservice hreset hdue hidle => ?_, fun o tag s d a due hservice hreset hfind hstatus => ?_⟩
  · intro u waiting clear performed
    have hclear (v : State) : clear v ↔ v.clearToPerform = true := v.clearToPerform_iff.symm
    have hperformed : performed = State.performed := by
      funext v d
      rw [State.performed, State.performEntry_eq, completed_eq]
      rfl
    have hrun : (s.advance e.moment).delayedRun = State.runEntries u.intake.table.length u := if_pos hdue
    obtain ⟨k, hk, heq, hbefore, hstop⟩ := State.runEntries_spec u.intake.table.length u hkeyed.2.1
      (List.length_filter_le _ _)
    have hwaiting : waiting = u.pendings := rfl
    simp only [hclear, hperformed, hwaiting]
    refine ⟨k, hk, ?_, hbefore, hstop⟩
    rw [exec_delayedDepositRun_serving e hservice hreset, hrun, heq]
    split <;> rfl
  · intro done
    rw [exec_deposit_taken e htaken,
      State.takeDeposit_perform (s := s.atFrame h e) hindex hnew hpool hqueue hpending]
    rfl
  · rw [exec_delayedDepositRun_serving e hservice hreset]
    have hrun : (s.advance e.moment).delayedRun = s.advance e.moment := if_neg (Bool.eq_false_iff.1 hdue)
    rw [hrun]
    exact congrArg Host.Outcome.next (State.testStart_idle _ hidle)
  · have hat : s.discardAt o.toNat tag.toNat = some due := by
      unfold State.discardAt
      rw [show s.intake.table.find? (isOf o.toNat tag.toNat) = some d from hfind]
      dsimp only
      rw [hstatus]
    have hdiscard : exec (.discardTimerExpiry o tag) s = .next (s.discard o.toNat tag.toNat) :=
      congrArg Host.Outcome.next (if_pos (State.serving_of hservice hreset))
    rw [hdiscard, State.discard, hat]
    rfl

/-! ### A hold and its watch (R149, R158) -/

theorem poolFront_of_count {p : Pool} (h : 0 < poolCount p) : ∃ slot, poolFront p = some slot := by
  unfold poolFront
  cases hr : p.released with
  | cons slot rest => exact ⟨slot, rfl⟩
  | nil =>
    have hfresh : p.fresh < Config.slotCount := by
      rw [poolCount, hr, List.length_nil, Nat.zero_add] at h
      exact Nat.lt_of_sub_pos h
    exact ⟨p.fresh, if_pos hfresh⟩

/-- A hold takes the balance across the threshold of an armed watch. -/
abbrev holdCrosses (r : Subscriber) (e : Nat) : Prop :=
  r.threshold < r.balance ∧ r.balance - e ≤ r.threshold ∧ r.armed = true

theorem State.applyHold_crosses {s : State} {index : Nat} {e : Nat} (number : Nat)
    (h : holdCrosses (s.sub index) e) : s.applyHold index number e =
      ((s.putSub index { holdSub (s.sub index) e with armed := false }).enqueue
        (.lowBalance number ((s.sub index).balance - e) (s.sub index).threshold)).bump .lowBalances := if_pos h

theorem State.applyHold_stays {s : State} {index : Nat} {e : Nat} (number : Nat)
    (h : ¬ holdCrosses (s.sub index) e) : s.applyHold index number e =
      s.putSub index { holdSub (s.sub index) e with
        armed := if (s.sub index).threshold < (s.sub index).balance - e then true else (s.sub index).armed } := by
  refine (if_neg h).trans (congrArg (s.putSub index) ?_)
  by_cases hlt : (s.sub index).threshold < (s.sub index).balance - e
  · rw [if_pos hlt]
    exact if_pos hlt
  · rw [if_neg hlt]
    exact if_neg hlt

/-! ### The acceptance of a deposit (R48) -/

/-- An accepted message's slot, record and sequence number written. -/
def State.stored (s : State) (slot : Nat) (d : Delayed) (h : Shaped) (basis : Basis) (e : Nat) : State :=
  ((s.withStore { s.store with
    pool := poolPop s.store.pool, msgs := tablePut s.store.msgs slot (s.newMsg d (s.sub d.index) h basis e) }).rewrite
      ([.pool, .message slot] ++ (List.range h.chars.length).map (StorePlace.character slot))).putSub d.index
        { s.sub d.index with nextSeq := ((s.sub d.index).nextSeq + 1) % 64 }

/-- The hold of an accepted deposit, for a prepaid subscriber. -/
def State.heldFor (s : State) (d : Delayed) (plan : Plan) (e : Nat) : State :=
  match plan with
  | .prepaid => s.applyHold d.index d.number e
  | .postpaid => s

/-- The message linked at its subscriber's pending list. -/
def State.linked (s : State) (slot index : Nat) : State :=
  (s.putSub index { s.sub index with pendingList := (s.sub index).pendingList ++ [slot] }).relink
    [(s.sub index).pendingList.getLast?]

theorem State.accept_eq (s : State) (slot : Nat) (d : Delayed) (h : Shaped) (basis : Basis) (e : Nat) :
    s.accept slot d h basis e = ((((s.stored slot d h basis e).heldFor d (s.sub d.index).plan e).linked slot
      d.index).joinDue slot (feedOf d.latched.priority)).noteReads [.serial] := by
  cases hplan : (s.sub d.index).plan with
  | prepaid =>
    unfold State.accept State.heldFor State.linked State.stored
    dsimp only
    rw [hplan]
  | postpaid =>
    unfold State.accept State.heldFor State.linked State.stored
    dsimp only
    rw [hplan]

/-- An accepted message before it joins its due list. -/
def State.placed (s : State) (slot : Nat) (d : Delayed) (h : Shaped) (basis : Basis) (e : Nat) : State :=
  ((s.stored slot d h basis e).heldFor d (s.sub d.index).plan e).linked slot d.index

/-- What a hold leaves of the subscriber record (R149, R158). -/
def heldSub (r : Subscriber) (plan : Plan) (e : Nat) : Subscriber :=
  { r with
    balance := if plan = .prepaid then r.balance - e else r.balance
    held := if plan = .prepaid then r.held + e else r.held
    armed := if plan = .prepaid ∧ holdCrosses r e then false
      else if plan = .prepaid ∧ r.threshold < r.balance - e then true else r.armed }

theorem keptBut_heldFor (s : State) (d : Delayed) (plan : Plan) (e : Nat) :
    KeptBut [.subs, .queue, .stats, .faults, .parity] s (s.heldFor d plan e) := by
  unfold State.heldFor
  cases plan <;> simp

/-- The record, the other records and the queue after a hold. -/
structure HeldFor (s t : State) (d : Delayed) (plan : Plan) (e : Nat) : Prop where
  same : t.sub d.index = heldSub (s.sub d.index) plan e
  other : ∀ i, i ≠ d.index → t.sub i = s.sub i
  sorted : tableSorted t.subs = true
  records : t.queue.records = s.queue.records ++
    (if plan = .prepaid ∧ holdCrosses (s.sub d.index) e then
      [⟨s.queue.nextNumber, .lowBalance d.number ((s.sub d.index).balance - e) (s.sub d.index).threshold⟩] else [])

theorem State.heldFor_spec {s : State} (d : Delayed) (plan : Plan) (e : Nat) (hsorted : tableSorted s.subs = true) :
    HeldFor s (s.heldFor d plan e) d plan e := by
  have hput (r : Subscriber) : tableSorted (s.putSub d.index r).subs = true := by
    rw [State.putSub_subs]
    exact tableSorted_set _ _ _ _ hsorted
  unfold State.heldFor
  cases plan with
  | postpaid => exact ⟨by simp [heldSub], fun _ _ => rfl, hsorted, by simp⟩
  | prepaid =>
    dsimp only
    by_cases hcross : holdCrosses (s.sub d.index) e
    · rw [State.applyHold_crosses d.number hcross]
      refine ⟨?_, fun i hi => ?_, ?_, ?_⟩
      · refine (State.sub_enqueue _ _ _).trans ((State.sub_putSub_same _ _ _ hsorted).trans ?_)
        simp [heldSub, holdSub, hcross]
      · exact (State.sub_enqueue _ _ _).trans (State.sub_putSub_other _ _ hi)
      · exact (congrArg tableSorted (State.enqueue_subs _ _)).trans (hput _)
      · have hrecords (u : State) (body : RecordBody) :
            ((u.enqueue body).bump .lowBalances).queue.records = u.queue.records ++ [⟨u.queue.nextNumber, body⟩] := by
          change (u.enqueue body).queue.records = _
          rw [u.enqueue_eq body, State.rewrite_queue]
        rw [hrecords, State.putSub_queue, if_pos ⟨rfl, hcross⟩]
    · rw [State.applyHold_stays d.number hcross]
      refine ⟨?_, fun i hi => State.sub_putSub_other _ _ hi, hput _, ?_⟩
      · refine (State.sub_putSub_same _ _ _ hsorted).trans ?_
        simp [heldSub, holdSub, hcross]
      · rw [State.putSub_queue, if_neg (fun h => hcross h.2), List.append_nil]

section Placed

variable (s : State) (slot : Nat) (d : Delayed) (h : Shaped) (basis : Basis) (e : Nat)

theorem keptBut_placed : KeptBut [.queue, .stats, .subs, .store, .faults, .parity] s (s.placed slot d h basis e) := by
  have hstored : KeptBut [.queue, .stats, .subs, .store, .faults, .parity] s (s.stored slot d h basis e) := by
    simp [State.stored]
  have hlinked (u : State) : KeptBut [.queue, .stats, .subs, .store, .faults, .parity] u (u.linked slot d.index) := by
    simp [State.linked]
  exact (hstored.trans ((keptBut_heldFor _ d _ e).mono (by simp))).trans (hlinked _)

theorem State.placed_store : (s.placed slot d h basis e).store = { s.store with
    pool := poolPop s.store.pool, msgs := tablePut s.store.msgs slot (s.newMsg d (s.sub d.index) h basis e) } := by
  have hlinked (u : State) : (u.linked slot d.index).store = u.store := by simp [State.linked]
  rw [State.placed, hlinked, (keptBut_heldFor _ d _ e) .store (by decide), State.stored, State.putSub_store,
    State.rewrite_store]
  rfl

/-- The subscriber records and the queue once the message is placed. -/
structure Placed (t : State) : Prop where
  same : t.sub d.index = { heldSub (s.sub d.index) (s.sub d.index).plan e with
    nextSeq := ((s.sub d.index).nextSeq + 1) % 64, pendingList := (s.sub d.index).pendingList ++ [slot] }
  other : ∀ i, i ≠ d.index → t.sub i = s.sub i
  records : t.queue.records = s.queue.records ++
    (if (s.sub d.index).plan = .prepaid ∧ holdCrosses (s.sub d.index) e then
      [⟨s.queue.nextNumber, .lowBalance d.number ((s.sub d.index).balance - e) (s.sub d.index).threshold⟩] else [])

theorem State.placed_spec (hsorted : tableSorted s.subs = true) : Placed s slot d e (s.placed slot d h basis e) := by
  have hstoredSorted : tableSorted (s.stored slot d h basis e).subs = true := by
    rw [State.stored, State.putSub_subs]
    exact tableSorted_set _ _ _ _ (by rw [State.rewrite_subs]; exact hsorted)
  have hstored : (s.stored slot d h basis e).sub d.index =
      { s.sub d.index with nextSeq := ((s.sub d.index).nextSeq + 1) % 64 } :=
    State.sub_putSub_same _ _ _ (by rw [State.rewrite_subs]; exact hsorted)
  have hstoredQueue : (s.stored slot d h basis e).queue = s.queue := by
    rw [State.stored, State.putSub_queue, State.rewrite_queue]
    rfl
  obtain ⟨hsame, hother, hheldSorted, hrecords⟩ :=
    State.heldFor_spec d (s.sub d.index).plan e hstoredSorted
  rw [hstored] at hsame
  rw [hstored, hstoredQueue] at hrecords
  refine ⟨?_, fun i hi => ?_, ?_⟩
  · refine (State.sub_relink _ _ _).trans ((State.sub_putSub_same _ _ _ hheldSorted).trans ?_)
    rw [hsame]
    rfl
  · refine (State.sub_relink _ _ _).trans ((State.sub_putSub_other _ _ hi).trans ((hother i hi).trans ?_))
    exact (State.sub_putSub_other _ _ hi).trans (State.sub_rewrite _ _ _)
  · rw [State.placed, State.linked, State.relink_queue, State.putSub_queue]
    exact hrecords

end Placed

/-! ### A join within the change, and the test at its end (R71, R103) -/

theorem State.wake_waiting {s : State} (h : s.claims.slot = .waiting) :
    s.wake = s.withClaims { s.claims with startTest := true } := by
  unfold State.wake
  rw [h]

theorem State.wake_idle {s : State} (h : s.claims.slot ≠ .waiting) : s.wake = s := by
  unfold State.wake
  split
  · next hw => exact absurd hw h
  · rfl

theorem State.wakeAt_window {s : State} {w : WindowRec} (hw : s.claims.openWin = some w) :
    s.wakeAt w.air.window = s.wake := if_pos (by rw [State.claimWindow, hw]; rfl)

theorem State.wakeAt_other {s : State} {window : Nat}
    (h : ∀ w, s.claims.openWin = some w → w.air.window ≠ window) : s.wakeAt window = s := by
  refine if_neg fun hwindow => ?_
  obtain ⟨w, hw, hwin⟩ := Option.map_eq_some_iff.1 hwindow
  exact h w hw hwin

theorem State.joinDue_claims_idle {s : State} {slot : Nat} {m : Msg} (f : Feed) (hm : s.msg slot = some m)
    (h : s.claims.slot ≠ .waiting ∨
      ∀ w, s.claims.openWin = some w → w.air.window ≠ (s.sub m.subIndex).homeWindow) :
    (s.joinDue slot f).claims = s.claims := by
  have hjoined := s.joined_claims slot f m
  rw [State.joinDue_eq f hm]
  split
  · exact hjoined
  · rcases h with h | h
    · have hwake : (s.joined slot f m).wake = s.joined slot f m := State.wake_idle (by rw [hjoined]; exact h)
      rw [State.wakeAt, hwake, ite_self, hjoined]
    · rw [State.wakeAt_other (by rw [hjoined]; exact h), hjoined]

theorem State.joinDue_claims_wakes {s : State} {slot : Nat} {m : Msg} {w : WindowRec} (f : Feed)
    (hm : s.msg slot = some m) (hwaiting : s.claims.slot = .waiting) (hw : s.claims.openWin = some w)
    (hwindow : w.air.window = (s.sub m.subIndex).homeWindow) :
    (s.joinDue slot f).claims = { s.claims with startTest := true } := by
  have hjoined := s.joined_claims slot f m
  have hstill : s.walks (s.sub m.subIndex).homeWindow = false := by
    unfold State.walks
    rw [hwaiting]
  rw [State.joinDue_eq f hm, hstill, Bool.false_and, if_neg (by nofun), ← hwindow,
    State.wakeAt_window (by rw [hjoined]; exact hw), State.wake_waiting (by rw [hjoined]; exact hwaiting), hjoined]
  rfl

theorem State.testStart_lists (s : State) : s.testStart.store.msgs = s.store.msgs ∧
    s.testStart.store.pool = s.store.pool ∧ s.testStart.store.due = s.store.due := by
  by_cases htest : s.claims.startTest = true
  · by_cases hmay : ∃ w, s.claims.openWin = some w ∧ s.mayCompose w = true
    · obtain ⟨w, hw, hmay⟩ := hmay
      rw [State.testStart_starts htest hw hmay, State.startComposition]
      simp
    · rw [State.testStart_fails htest (fun w hw h => hmay ⟨w, hw, h⟩)]
      exact ⟨rfl, rfl, rfl⟩
  · rw [State.testStart_idle s (Bool.eq_false_iff.2 htest)]
    exact ⟨rfl, rfl, rfl⟩

/-! ### The deposit's checks in order (R43, R47) -/

section Judged

variable {s : State} {d : Delayed}

theorem State.perform_refused {reason : Reason} (h : s.refusal (s.sub d.index) = some reason) :
    s.perform d = (s.noteReads (.subscriber d.index :: if (s.sub d.index).state = .active then [.tariffs] else []),
      plainAnswer d.tag d.number .refused reason) := by
  unfold State.perform State.judgeDeposit State.performReads
  dsimp only
  rw [h]
  simp

theorem State.refusal_none (hactive : (s.sub d.index).state = .active) (hset : s.charge.set = true)
    (hroom : (s.sub d.index).pendingList.length < (s.sub d.index).pendingLimit) :
    s.refusal (s.sub d.index) = none := by
  unfold State.refusal
  rw [hactive, hset]
  simpa using hroom

/-- The shape, the basis and the hold a deposit is judged with (R44 to R46, R146, R147). -/
def State.shapeOf (s : State) (d : Delayed) : Shaped :=
  shapeFor (s.sub d.index).pager (s.sub d.index).maxParts d.latched

def State.costOf (s : State) (d : Delayed) : Nat :=
  chargeFor (s.basisFor (s.sub d.index)) d.latched.priority (s.shapeOf d).chars.length

/-- What the performing of a deposit that is priced reads. -/
def State.pricedReads (s : State) (d : Delayed) : List StorePlace :=
  [.subscriber d.index, .tariffs, .active (s.sub d.index).tariffClass]

theorem State.performReads_priced (hactive : (s.sub d.index).state = .active)
    (h : s.refusal (s.sub d.index) = none) : s.performReads d = s.pricedReads d := by
  unfold State.performReads
  dsimp only
  rw [if_pos hactive, if_pos h]
  rfl

theorem State.perform_noCredit (hactive : (s.sub d.index).state = .active)
    (h : s.refusal (s.sub d.index) = none) (hplan : (s.sub d.index).plan = .prepaid)
    (hshort : (s.sub d.index).balance < s.costOf d) : s.perform d = (s.noteReads (s.pricedReads d),
      shapedAnswer d.tag d.number .refused .noCredit 0 (s.shapeOf d) (s.costOf d)) := by
  have hjudge : s.judgeDeposit d = (s, shapedAnswer d.tag d.number .refused .noCredit 0
      (s.shapeOf d) (s.costOf d)) := by
    unfold State.judgeDeposit
    dsimp only
    rw [h]
    exact if_pos ⟨hplan, hshort⟩
  unfold State.perform
  rw [hjudge, State.performReads_priced hactive h]

theorem State.perform_accepted {slot : Nat} (hactive : (s.sub d.index).state = .active)
    (h : s.refusal (s.sub d.index) = none)
    (hcredit : (s.sub d.index).plan = .prepaid → s.costOf d ≤ (s.sub d.index).balance)
    (hfront : poolFront s.store.pool = some slot) : s.perform d =
      ((s.accept slot d (s.shapeOf d) (s.basisFor (s.sub d.index)) (s.costOf d)).noteReads (s.pricedReads d),
        shapedAnswer d.tag d.number .accepted .none (s.sub d.index).nextSeq (s.shapeOf d) (s.costOf d)) := by
  have hjudge : s.judgeDeposit d =
      (s.accept slot d (s.shapeOf d) (s.basisFor (s.sub d.index)) (s.costOf d),
        shapedAnswer d.tag d.number .accepted .none (s.sub d.index).nextSeq (s.shapeOf d) (s.costOf d)) := by
    unfold State.judgeDeposit
    dsimp only
    rw [h]
    refine (if_neg fun hshort => Nat.not_lt.2 (hcredit hshort.1) hshort.2).trans ?_
    rw [hfront]
    rfl
  unfold State.perform
  rw [hjudge, State.performReads_priced hactive h]

end Judged

/-! ### What an acceptance leaves -/

/-- An accepted message's place in the store, and what its join does to a walk and a WAITING slot. -/
structure Accepted (s : State) (slot : Nat) (d : Delayed) (h : Shaped) (basis : Basis) (e : Nat) (f : Feed)
    (t : State) :
    Prop where
  pool : t.store.pool = poolPop s.store.pool
  msg : t.msg slot = some { s.newMsg d (s.sub d.index) h basis e with feed := some f }
  others : ∀ k, k ≠ slot → t.msg k = s.msg k
  tail : t.dueList (dueKey (s.sub d.index).homeWindow f) = s.dueList (dueKey (s.sub d.index).homeWindow f) ++ [slot]
  lists : ∀ k, k ≠ dueKey (s.sub d.index).homeWindow f → t.dueList k = s.dueList k
  cursors : t.store.cursors =
    if s.walks (s.sub d.index).homeWindow && (feedGet s.store.cursors f).isNone then
      feedPut s.store.cursors f (some slot)
    else s.store.cursors
  idle : (s.claims.slot ≠ .waiting ∨
    ∀ w, s.claims.openWin = some w → w.air.window ≠ (s.sub d.index).homeWindow) → t.claims = s.claims
  wakes : ∀ w, s.claims.slot = .waiting → s.claims.openWin = some w →
    w.air.window = (s.sub d.index).homeWindow → t.claims = { s.claims with startTest := true }

theorem State.accepted_joinDue (s : State) (slot : Nat) (d : Delayed) (h : Shaped) (basis : Basis) (e : Nat) (f : Feed)
    (hsubs : tableSorted s.subs = true) (hdue : tableSorted s.store.due = true) :
    Accepted s slot d h basis e f ((s.placed slot d h basis e).joinDue slot f) := by
  have hstore := s.placed_store slot d h basis e
  have hclaims : (s.placed slot d h basis e).claims = s.claims :=
    (keptBut_placed s slot d h basis e) .claims (by decide)
  have hm : (s.placed slot d h basis e).msg slot = some (s.newMsg d (s.sub d.index) h basis e) := by
    rw [State.msg, hstore]
    exact tableFind_put_same _ _ _
  have hhome : ((s.placed slot d h basis e).sub (s.newMsg d (s.sub d.index) h basis e).subIndex).homeWindow =
      (s.sub d.index).homeWindow :=
    (congrArg Subscriber.homeWindow (s.placed_spec slot d h basis e hsubs).same).trans rfl
  have hlist (k : Nat) : (s.placed slot d h basis e).dueList k = s.dueList k := by
    rw [State.dueList, hstore]
    rfl
  have hwalks (window : Nat) : (s.placed slot d h basis e).walks window = s.walks window := by
    rw [State.walks, State.claimWindow, hclaims]
    rfl
  refine ⟨?_, State.msg_joinDue_same f hm, fun k hk => ?_, ?_, fun k hk => ?_, ?_, fun hidle => ?_,
    fun w hwaiting hw hwindow => ?_⟩
  · rw [State.joinDue_store f hm, hstore]
  · rw [State.msg_joinDue_other f hm hk, State.msg, hstore]
    exact tableFind_put_other _ _ hk
  · have htail := State.dueList_joinDue_same f hm (by rw [hstore]; exact hdue)
    rwa [hhome, hlist] at htail
  · rw [State.dueList_joinDue_other f hm (by rw [hhome]; exact hk), hlist]
  · rw [State.joinDue_store f hm]
    dsimp only
    rw [hhome, hwalks, hstore]
  · rw [State.joinDue_claims_idle f hm (by rw [hclaims, hhome]; exact hidle), hclaims]
  · rw [State.joinDue_claims_wakes f hm (by rw [hclaims]; exact hwaiting) (by rw [hclaims]; exact hw)
      (by rw [hhome]; exact hwindow), hclaims]

theorem feedOf_eq (p : Priority) : feedOf p = if p = .urgent then .urgent else .routine := by
  cases p <;> rfl

/-- Settles O46: the joins and wake events in their own lemmas, and a deposit by the first check that applies. -/
theorem depositPerformedAtOnce : Obligations.DepositPerformedAtOnce := by
  refine ⟨fun u => ⟨State.wake_waiting, State.wake_idle, fun n => ⟨?_, State.wakeAt_other⟩⟩, fun u k l => rfl,
    fun u slot m => rfl, fun u slot f m hm => ?_, fun h e b s index htaken hidle hindex hnew hpool hqueue
      hpending => ?_⟩
  · rintro ⟨w, hw, rfl⟩
    exact State.wakeAt_window hw
  · intro home l joined walk
    have hwalks : u.walks home = true ↔ walk := u.walks_iff home
    refine ⟨fun ⟨hwalk, hend⟩ => ?_, fun hnot => ?_⟩
    · rw [State.joinDue_eq f hm, if_pos (by rw [hwalks.2 hwalk, hend]; rfl), State.putCursor, u.joined_cursors]
      rfl
    · rw [State.joinDue_eq f hm, if_neg]
      · rfl
      · rw [Bool.and_eq_true, Option.isNone_iff_eq_none]
        exact fun h => hnot ⟨hwalks.1 h.1, h.2⟩
  · intro hsubs hdue v src tag number r priority shape tariff basis cost told refused shaped feed crosses
    let d : Delayed := delayedOf src index b
    have hdeposit : v.takeDeposit src b =
        ((v.perform d).1.addNotice src (.answer (v.perform d).2)).noteReads holdReads :=
      State.takeDeposit_perform (s := v) hindex hnew hpool hqueue hpending
    have htold (l : List StorePlace) (body : NoticeBody) : (told l body).claims = s.claims :=
      (by simp [told] : KeptBut [.span, .stats, .faults] v (told l body)) .claims (by decide)
    have hrefused {reason : Reason} (hreason : v.refusal r = some reason) :
        exec (.deposit h e b) s = .next (refused (if r.state = .active then [.tariffs] else []) reason) := by
      refine exec_deposit_beside htaken hidle (hdeposit.trans ?_) (htold _ _)
      rw [State.perform_refused (s := v) (d := d) hreason]
      rfl
    refine ⟨fun hstate => ?_, fun hstate => ?_, fun hstate hset => ?_, fun hstate hset hfull => ?_,
      fun hstate hset hroom => ⟨fun hplan hshort => ?_, fun hcredit => ?_⟩⟩
    · have hreason : v.refusal r = some .vacant := by
        unfold State.refusal
        rw [hstate]
      rw [hrefused hreason, hstate]
      rfl
    · have hreason : v.refusal r = some .stopped := by
        unfold State.refusal
        rw [hstate]
      rw [hrefused hreason, hstate]
      rfl
    · have hreason : v.refusal r = some .noTariff := by
        unfold State.refusal
        rw [hstate]
        exact if_pos (by rw [show v.charge.set = false from hset]; rfl)
      rw [hrefused hreason, hstate]
      rfl
    · have hreason : v.refusal r = some .listFull := by
        unfold State.refusal
        rw [hstate]
        exact (if_neg (by rw [show v.charge.set = true from hset]; nofun)).trans (if_pos hfull)
      rw [hrefused hreason, hstate]
      rfl
    · have hnone : v.refusal (v.sub d.index) = none := State.refusal_none (s := v) hstate hset hroom
      refine exec_deposit_beside htaken hidle (hdeposit.trans ?_) (htold _ _)
      rw [State.perform_noCredit (s := v) (d := d) hstate hnone hplan hshort]
      rfl
    · have hnone : v.refusal (v.sub d.index) = none := State.refusal_none (s := v) hstate hset hroom
      obtain ⟨slot, hfront⟩ := poolFront_of_count (Nat.lt_of_le_of_lt (Nat.zero_le _) hpool)
      have hperform := State.perform_accepted (s := v) (d := d) hstate hnone hcredit hfront
      let J := (v.placed slot d shape basis cost).joinDue slot (feedOf priority)
      have hfeed : feedOf priority = feed := feedOf_eq priority
      have haccepted : Accepted v slot d shape basis cost (feedOf priority) J :=
        v.accepted_joinDue slot d shape basis cost (feedOf priority) hsubs hdue
      rw [hfeed] at haccepted
      have hplaced : Placed v slot d cost (v.placed slot d shape basis cost) :=
        v.placed_spec slot d shape basis cost hsubs
      let a := (((J.noteReads [.serial]).noteReads (v.pricedReads d)).addNotice src
        (shaped .accepted .none r.nextSeq)).noteReads holdReads
      have ha : v.takeDeposit src b = a := by
        rw [hdeposit, hperform, State.accept_eq]
        rfl
      have hnoted : KeptBut [.span, .stats, .faults] J a := by simp [a]
      have hjoined : KeptBut [.store, .claims, .faults, .stats, .parity] (v.placed slot d shape basis cost) J := by
        simp [J]
      have hall : KeptBut [.now, .faults, .stats, .span, .subs, .store, .claims, .queue, .parity] s a.testStart :=
        ((keptBut_atFrame h e).mono (by simp)).trans ((((keptBut_placed v slot d shape basis cost).mono (by simp)).trans
          (hjoined.mono (by simp))).trans ((hnoted.mono (by simp)).trans (by simp)))
      obtain ⟨hmsgs, hpools, hdues⟩ := a.testStart_lists
      have hstore : a.store = J.store := hnoted .store (by decide)
      have hclaims : a.claims = J.claims := hnoted .claims (by decide)
      have hmsg (k : Nat) : a.testStart.msg k = J.msg k := by
        rw [State.msg, hmsgs, hstore]
        rfl
      have hlist (k : Nat) : a.testStart.dueList k = J.dueList k := by
        rw [State.dueList, hdues, hstore]
        rfl
      have hbeside : KeptBut [.store, .claims, .faults, .stats, .span, .parity] (v.placed slot d shape basis cost)
          a.testStart :=
        (hjoined.mono (by simp)).trans ((hnoted.mono (by simp)).trans (by simp))
      have hsub (i : Nat) : a.testStart.sub i = (v.placed slot d shape basis cost).sub i :=
        State.sub_congr (hbeside .subs (by decide)) i
      have hqueue : a.testStart.queue = (v.placed slot d shape basis cost).queue := hbeside .queue (by decide)
      have hspan : a.testStart.span = a.span :=
        (by simp : KeptBut [.claims, .store, .faults, .stats] a a.testStart) .span (by decide)
      have hquiet (hJ : J.claims = s.claims) : a.testStart = a := State.testStart_idle a (by
        rw [hclaims, hJ]
        exact hidle)
      refine ⟨slot, a.testStart, hfront, (exec_deposit_taken e htaken).trans (congrArg _ (congrArg State.testStart ha)),
        ?_, (hmsg slot).trans haccepted.msg, fun k hk => (hmsg k).trans (haccepted.others k hk),
        (hsub index).trans hplaced.same, fun i hi => (hsub i).trans (hplaced.other i hi),
        (hlist _).trans haccepted.tail, fun k hk => (hlist k).trans (haccepted.lists k hk), ?_, ?_,
        fun w hw hwindow => ⟨fun hwaiting htracking hsent => ?_, fun c hc => ?_⟩, fun hslot => ?_, fun hnot => ?_, hall⟩
      · rw [hpools, hstore]
        exact haccepted.pool
      · rw [hqueue]
        exact hplaced.records
      · rw [hspan, State.noteReads_span]
        exact State.getLast_addNotice _ _ _
      · have hwoken := haccepted.wakes w hwaiting hw hwindow
        have hclock : a.clock = s.clock := ((keptBut_placed v slot d shape basis cost).mono (by simp)).trans
          ((hjoined.mono (by simp)).trans (hnoted.mono (by simp)) : KeptBut [.queue, .stats, .subs, .store, .faults,
            .parity, .claims, .span] _ a) .clock (by decide)
        refine State.testStart_slot (w := w) (by rw [hclaims, hwoken]) (by rw [hclaims, hwoken]; exact hw)
          ((a.mayCompose_iff w).2 ⟨by rw [hclock]; exact htracking, .inr ?_, hsent⟩)
        rw [hclaims, hwoken]
        exact hwaiting
      · have hJ := haccepted.idle (.inl (by rw [show v.claims.slot = .composing c from hc]; nofun))
        have hwalks : v.walks (v.sub d.index).homeWindow = true := (v.walks_iff _).2 ⟨⟨c, hc⟩, w, hw, hwindow⟩
        rw [hquiet hJ, hstore, haccepted.cursors, hwalks, Bool.true_and]
        exact ite_congr (propext Option.isNone_iff_eq_none) (fun _ => rfl) fun _ => rfl
      · have hJ := haccepted.idle (.inl hslot)
        rw [hquiet hJ, hclaims, hJ]
        rfl
      · have hJ := haccepted.idle (.inr hnot)
        have hwalks : ¬ (v.walks (v.sub d.index).homeWindow && (feedGet v.store.cursors feed).isNone) = true := by
          rw [Bool.and_eq_true, State.walks_iff]
          rintro ⟨⟨-, w, hw, hwindow⟩, -⟩
          exact hnot w hw hwindow
        rw [hquiet hJ, hclaims, hJ, hstore, haccepted.cursors, if_neg hwalks]
        exact ⟨rfl, rfl⟩

end Sys2Proof.Machine
end

section
/-! QUERYs (R183, R184) and LOADs: the SET (R30 to R34, R37, R128), the VACATE (R35), the FINAL totals (R36) and an
operation that is neither. -/

namespace Sys2Proof.Machine

/-! ### The views of a QUERY ANSWER (R184) -/

theorem State.statsView_eq (s : State) : s.statsView =
    { engine := s.unit.engine, lastStart := s.unit.lastStart, causes := s.faults.causes,
      lastError := s.faults.lastError,
      stats := s.stats, freeCount := poolCount s.store.pool,
      pendingEntries := (s.intake.table.filter (fun d => decide (d.status = .pending))).length,
      completeEntries := (s.intake.table.filter (fun d => decide (d.status ≠ .pending))).length,
      notices := s.span.notices.length, entries := s.tracker.entries.length,
      reservations := s.tracker.reservations.length,
      waitingEntries := (s.tracker.entries.filter (fun x => decide (x.state ≠ .between))).length,
      occupancy := s.queue.records.length, waitList := s.store.waitList.length, period := s.queue.period,
      selector := s.queue.selector, sweep := s.queue.sweep, tariffs := s.charge } := by
  have hcomplete : (fun d : Delayed => decide (d.status ≠ .pending)) = fun d => !isPending d := by
    funext d
    simp [isPending]
  have hwaiting : (fun x : Entry => decide (x.state ≠ .between)) = isWaiting := by
    funext x
    unfold isWaiting
    cases x.state <;> rfl
  unfold State.statsView
  rw [hcomplete, hwaiting, List.countP_eq_length_filter, List.countP_eq_length_filter, List.countP_eq_length_filter]
  rfl

theorem State.entryView_entry {s : State} {slot : Nat} {x : Entry}
    (hx : s.tracker.entries.find? (fun y => y.slot = slot) = some x) :
    (∀ d, x.state = .waiting d → s.entryView slot = .waiting d) ∧ (x.state = .between →
      s.entryView slot = .between) := by
  unfold State.entryView
  rw [show s.entryOf slot = some x from hx]
  dsimp only
  refine ⟨fun d hstate => ?_, fun hstate => ?_⟩
  · rw [hstate]
  · rw [hstate]

theorem State.entryView_reserved {s : State} {slot : Nat}
    (hx : s.tracker.entries.find? (fun y => y.slot = slot) = none) :
    ((∃ r ∈ s.tracker.reservations, r.slot = slot) → s.entryView slot = .reservation) ∧
      ((∀ r ∈ s.tracker.reservations, r.slot ≠ slot) → s.entryView slot = .none) := by
  unfold State.entryView
  rw [show s.entryOf slot = none from hx]
  refine ⟨fun ⟨r, hr, hslot⟩ => ?_, fun hnone => ?_⟩
  · have hheld : (s.reservationOf slot).isSome = true := List.find?_isSome.2 ⟨r, hr, decide_eq_true hslot⟩
    obtain ⟨q, hq⟩ := Option.isSome_iff_exists.1 hheld
    rw [hq]
  · have hfree : s.reservationOf slot = none := List.find?_eq_none.2 (by simpa using hnone)
    rw [hfree]

theorem nextIn_of_not_mem {x : Nat} {l : List Nat} (h : x ∉ l) : nextIn x l = none := by
  induction l with
  | nil => rfl
  | cons y l ih =>
    rw [List.mem_cons, not_or] at h
    rw [nextIn, if_neg (fun hy => h.1 hy.symm), ih h.2]

/-- The links of a place of a list are the ones before and after it; a slot that is not on the list has none. -/
theorem links_neighbours (slot : Nat) (l : List Nat) :
    (∀ a b, l = a ++ slot :: b → slot ∉ a → slot ∉ b → prevIn slot l = a.getLast? ∧ nextIn slot l = b.head?) ∧
      (slot ∉ l → prevIn slot l = none ∧ nextIn slot l = none) := by
  refine ⟨fun a b hl ha hb => ?_, fun h => ⟨prevIn_of_not_mem h, nextIn_of_not_mem h⟩⟩
  rw [hl]
  exact ⟨prevIn_append slot a b ha hb, nextIn_append slot a b ha⟩

theorem State.linksOf_feed {s : State} {m : Msg} {f : Feed} (slot : Nat) (hfeed : m.feed = some f) :
    (s.linksOf slot m).duePrev = prevIn slot (s.dueList (dueKey (s.sub m.subIndex).homeWindow f)) ∧
      (s.linksOf slot m).dueNext = nextIn slot (s.dueList (dueKey (s.sub m.subIndex).homeWindow f)) := by
  unfold State.linksOf
  rw [hfeed]
  exact ⟨rfl, rfl⟩

theorem State.linksOf_unlisted (s : State) {m : Msg} (slot : Nat) (hfeed : m.feed = none) :
    (s.linksOf slot m).duePrev = none ∧ (s.linksOf slot m).dueNext = none := by
  unfold State.linksOf
  rw [hfeed]
  exact ⟨rfl, rfl⟩

/-! ### The queries (R183, R184) -/

/-- A query touches neither the Claim Builder nor what it answers. -/
theorem State.hear_query {s : State} {h : Header} {kind : Byte} {b : QueryBody} (e : Env) {act : State → State}
    (htaken : s.takes h (.query kind b) = true) (hidle : s.claims.startTest = false)
    (hkept : KeptBut [.span, .stats, .faults] (s.atFrame h e) (act (s.atFrame h e))) :
    (Host.Outcome.next (s.hear h e (.query kind b) act) : Result) = .next (act (s.atFrame h e)) :=
  congrArg Host.Outcome.next (State.hear_beside e htaken hidle hkept (by decide))

/-- Settles O53: the views field by field, and each query answered with its view. -/
theorem queriesAnswerWhatStands : Obligations.QueriesAnswerWhatStands := by
  refine ⟨State.statsView_eq, fun s slot => ⟨fun x => State.entryView_entry, State.entryView_reserved⟩,
    fun s slot m => ?_, fun h e s hidle => ?_⟩
  · intro neighbours x
    have hpend := links_neighbours slot (s.sub m.subIndex).pendingList
    have hwait := links_neighbours slot s.store.waitList
    refine ⟨fun f hfeed => ?_, s.linksOf_unlisted slot, hpend, prevIn slot s.store.waitList, hwait⟩
    obtain ⟨hprev, hnext⟩ := State.linksOf_feed (s := s) slot hfeed
    have hdue := links_neighbours slot (s.dueList (dueKey (s.sub m.subIndex).homeWindow f))
    rwa [← hprev, ← hnext] at hdue
  · intro u v tell
    refine ⟨fun tag arg htaken => ?_, fun tag arg htaken => ?_, fun b htaken => ?_, fun b htaken => ?_,
      fun b htaken => ?_⟩
    · exact State.hear_query e htaken hidle (by simp [State.takeQueryStats])
    · exact State.hear_query e htaken hidle (by simp [State.takeQueryStats])
    · have hexec : exec (.querySubscriber h e b) s = .next (u.takeQuerySub h.src.toNat (s.toSelf h) b) :=
        State.hear_query e htaken hidle (by simp)
      rw [hexec]
      refine ⟨fun index hindex => ?_, fun hnone => ?_⟩
      · unfold State.takeQuerySub
        rw [show u.decode b.arg.toNat = some index from hindex]
        rfl
      · unfold State.takeQuerySub
        rw [show u.decode b.arg.toNat = none from hnone]
        dsimp only
        simp only [State.toSelf, decide_eq_true_eq]
        rfl
    · have hexec : exec (.queryMessage h e b) s = .next (u.takeQueryMsg h.src.toNat b) :=
        State.hear_query e htaken hidle (by simp)
      rw [hexec]
      refine ⟨fun m hm => ?_, fun hnone => ?_⟩
      · unfold State.takeQueryMsg State.messageView State.messageReads
        rw [show u.msg b.arg.toNat = some m from hm]
        rfl
      · unfold State.takeQueryMsg State.messageView State.messageReads
        rw [show u.msg b.arg.toNat = none from hnone]
        rfl
    · exact State.hear_query e htaken hidle (by simp)

/-! ### What a SET tests (R30, R33) -/

theorem loadInRange_iff (b : LoadBody) : loadInRange b = true ↔
    b.state.toNat ≤ 1 ∧ b.airTag.toNat ≤ 2097151 ∧ b.home.toNat ≤ 74 ∧ b.pager.toNat ≤ 2 ∧ b.twoWay.toNat ≤ 1 ∧
    (1 ≤ b.maxParts.toNat ∧ b.maxParts.toNat ≤ 8) ∧ (1 ≤ b.repeatCount.toNat ∧ b.repeatCount.toNat ≤ 3) ∧
    b.plan.toNat ≤ 1 ∧ b.tariffClass.toNat ≤ 7 ∧ (1 ≤ b.pendingLimit.toNat ∧ b.pendingLimit.toNat ≤ 16) := by
  simp only [loadInRange, Bool.and_eq_true, decide_eq_true_eq, and_assoc]

theorem kindOfByte_iff (k : Kind) {x : Byte} (hx : x.toNat ≤ 2) :
    k = kindOfByte x ↔ [Kind.tone, .numeric, .text].idxOf k = x.toNat := by
  have hcases : x.toNat = 0 ∨ x.toNat = 1 ∨ x.toNat = 2 := by omega
  unfold kindOfByte
  rcases hcases with h | h | h <;> rw [h] <;> cases k <;> decide

theorem planOfByte_iff (p : Plan) {x : Byte} (hx : x.toNat ≤ 1) :
    p = planOfByte x ↔ [Plan.prepaid, .postpaid].idxOf p = x.toNat := by
  have hcases : x.toNat = 0 ∨ x.toNat = 1 := by omega
  unfold planOfByte
  rcases hcases with h | h <;> rw [h] <;> cases p <;> decide

theorem flagOfByte_iff (t : Bool) {x : Byte} (hx : x.toNat ≤ 1) :
    t = decide (x.toNat = 1) ↔ (if t then 1 else 0) = x.toNat := by
  have hcases : x.toNat = 0 ∨ x.toNat = 1 := by omega
  rcases hcases with h | h <;> rw [h] <;> cases t <;> decide

theorem changesLocked_iff (r : Subscriber) {b : LoadBody} (hrange : loadInRange b = true) :
    changesLocked r b = false ↔
      r.airTag = b.airTag.toNat ∧ r.homeWindow = b.home.toNat ∧
      [Kind.tone, .numeric, .text].idxOf r.pager = b.pager.toNat ∧ (if r.twoWay then 1 else 0) = b.twoWay.toNat ∧
      r.maxParts = b.maxParts.toNat ∧ [Plan.prepaid, .postpaid].idxOf r.plan = b.plan.toNat := by
  obtain ⟨-, -, -, hpager, htwo, -, -, hplan, -, -⟩ := (loadInRange_iff b).1 hrange
  simp only [changesLocked, Bool.or_eq_false_iff, decide_eq_false_iff_not, Classical.not_not, and_assoc]
  rw [kindOfByte_iff r.pager hpager, flagOfByte_iff r.twoWay htwo, planOfByte_iff r.plan hplan]

theorem State.lt_sendsFloor_iff (s : State) (twoWay : Bool) (slot n : Nat) : n < s.sendsFloor twoWay slot ↔
    ∃ m, s.msg slot = some m ∧
      (n < m.sends ∨ (twoWay = false ∧ (∃ p, m.state = .claimed p) ∧ n < m.sends + 1)) := by
  unfold State.sendsFloor
  cases hm : s.msg slot with
  | none => simp
  | some m =>
    simp only [Option.some.injEq, exists_eq_left']
    cases hs : m.state with
    | claimed p =>
      cases twoWay with
      | true => simp
      | false =>
        simp only [Bool.false_eq_true, if_false, true_and, MsgState.claimed.injEq, exists_eq']
        omega
    | _ => simp

theorem State.lowersBelowSends_iff (s : State) (r : Subscriber) (b : LoadBody) : s.lowersBelowSends r b = true ↔
    b.repeatCount.toNat < r.repeatCount ∧ ∃ slot ∈ r.pendingList.take 16, ∃ m, s.msg slot = some m ∧
      (b.repeatCount.toNat < m.sends ∨
        (r.twoWay = false ∧ (∃ p, m.state = .claimed p) ∧ b.repeatCount.toNat < m.sends + 1)) := by
  simp only [State.lowersBelowSends, Bool.and_eq_true, decide_eq_true_eq, List.any_eq_true, State.lt_sendsFloor_iff]
  rfl

/-- The repeat count walk's treatment of one message (R128). -/
theorem State.blindIfRepeated_row {s : State} {slot : Nat} {m : Msg} (n : Nat) (hm : s.msg slot = some m) :
    ((∃ nb, m.state = .resting nb) → n ≤ m.sends → State.blindIfRepeated n s slot = s.finish slot .sentBlind) ∧
    (¬ ((∃ nb, m.state = .resting nb) ∧ n ≤ m.sends) → State.blindIfRepeated n s slot = s) := by
  unfold State.blindIfRepeated
  rw [hm]
  dsimp only
  refine ⟨fun ⟨nb, hstate⟩ hn => ?_, fun hnot => ?_⟩
  · rw [hstate]
    exact if_pos hn
  · cases hs : m.state with
    | resting nb => exact if_neg fun hn => hnot ⟨⟨nb, hs⟩, hn⟩
    | _ => rfl

/-! ### FINAL totals (R36) -/

theorem State.records_enqueueAll (l : List RecordBody) (s : State) :
    (l.foldl State.enqueue s).queue.records.map Record.body = s.queue.records.map Record.body ++ l ∧
      (l.foldl State.enqueue s).queue.sweep = s.queue.sweep := by
  induction l generalizing s with
  | nil => exact ⟨(List.append_nil _).symm, rfl⟩
  | cons body l ih =>
    obtain ⟨hrecords, hsweep⟩ := ih (s.enqueue body)
    have hone : (s.enqueue body).queue.records = s.queue.records ++ [⟨s.queue.nextNumber, body⟩] ∧
        (s.enqueue body).queue.sweep = s.queue.sweep := by
      rw [s.enqueue_eq body, State.rewrite_queue]
      exact ⟨rfl, rfl⟩
    rw [List.foldl_cons, hrecords, hsweep, hone.1, hone.2]
    exact ⟨by simp, rfl⟩

/-- The queue after a record's FINAL totals. -/
theorem State.queueFinals_spec (s : State) (index number : Nat) (r : Subscriber) :
    (s.queueFinals index number r).queue.records.map Record.body =
      s.queue.records.map Record.body ++ s.finalTotals index number r ∧
    (s.queueFinals index number r).queue.sweep =
      s.queue.sweep.map (fun x => if s.closingFinal index r then { x with count := x.count + 1 } else x) := by
  obtain ⟨hrecords, hsweep⟩ := State.records_enqueueAll (s.finalTotals index number r) s
  unfold State.queueFinals
  dsimp only
  cases hw : s.queue.sweep with
  | none => exact ⟨hrecords, hsweep.trans hw⟩
  | some w =>
    dsimp only
    by_cases hclosing : s.closingFinal index r = true
    · rw [if_pos hclosing]
      refine ⟨(congrArg (List.map Record.body) ?_).trans hrecords, ?_⟩
      · simp [State.putSweep]
      · simp [State.putSweep, hclosing, countFinal]
    · rw [if_neg hclosing]
      refine ⟨hrecords, hsweep.trans (hw.trans ?_)⟩
      rw [Option.map_some, if_neg hclosing]

theorem State.roomToEmpty_iff (s : State) (index number : Nat) (r : Subscriber) :
    s.roomToEmpty index number r = true ↔ s.queue.records.length + (s.finalTotals index number r).length ≤ 1024 := by
  rw [State.roomToEmpty, State.roomFor, decide_eq_true_iff]
  rfl

/-! ### LOADs taken (R30, R37) -/

theorem exec_loadSet_taken {h : Header} {b : LoadBody} {s : State} (e : Env) (htaken : s.takes h (.load 0 b) = true) :
    exec (.loadSet h e b) s = .next ((s.atFrame h e).takeLoad h.src.toNat (s.toSelf h) 0 b).testStart :=
  congrArg Host.Outcome.next (s.hear_taken h e _ _ htaken)

theorem State.takeLoad_unowned {s : State} {b : LoadBody} (src : Nat) (addressed : Bool) (op : Byte)
    (h : s.decode b.number.toNat = none) : s.takeLoad src addressed op b =
      if addressed then s.addNotice src (.loadAnswer b.tag.toNat b.number.toNat .notOwned .none 0 0 .vacant)
      else s := by
  unfold State.takeLoad
  rw [h]

section Owned

variable {s : State} {b : LoadBody} {index : Nat} (src : Nat) (addressed : Bool)
  (hindex : s.decode b.number.toNat = some index)

include hindex

theorem State.takeLoad_set (hrange : loadInRange b = true) : s.takeLoad src addressed 0 b =
    (s.loadSet src index b).noteReads (.subscriber index :: s.setReads index b) := by
  unfold State.takeLoad State.loadReads
  rw [hindex, hrange]
  rfl

theorem State.takeLoad_badField (hrange : loadInRange b = false) : s.takeLoad src addressed 0 b =
    (s.loadAnswer src index b .badField .none 0).noteReads [.subscriber index] := by
  unfold State.takeLoad State.loadReads
  rw [hindex, hrange]
  rfl

theorem State.takeLoad_vacate : s.takeLoad src addressed 1 b =
    (s.loadVacate src index b).noteReads (.subscriber index :: vacateReads (s.sub index)) := by
  unfold State.takeLoad State.loadReads
  rw [hindex]
  rfl

theorem State.takeLoad_other {op : Byte} (h0 : op ≠ 0) (h1 : op ≠ 1) : s.takeLoad src addressed op b =
    (s.loadAnswer src index b .badField .none 0).noteReads [.subscriber index] := by
  have hset : ¬ op.toNat = 0 := fun h => h0 (BitVec.eq_of_toNat_eq h)
  have hvacate : ¬ op.toNat = 1 := fun h => h1 (BitVec.eq_of_toNat_eq h)
  unfold State.takeLoad State.loadReads
  rw [hindex]
  dsimp only
  rw [if_neg hset, if_neg hvacate, if_neg (fun h => hset h.1), if_neg hvacate]

end Owned

/-! ### The SET (R31 to R34, R128) -/

/-- The record a SET creates. -/
theorem createdSub_eq (selector : BankId) (b : LoadBody) : createdSub selector b =
    let plan : Plan := if b.plan.toNat = 0 then .prepaid else .postpaid
    let opening := if plan = .prepaid then b.opening.toNat else 0
    { state := if b.state.toNat = 0 then .active else .stopped, airTag := b.airTag.toNat, homeWindow := b.home.toNat,
      pager := kindOfByte b.pager, twoWay := decide (b.twoWay.toNat = 1), maxParts := b.maxParts.toNat,
      repeatCount := b.repeatCount.toNat, plan := plan, tariffClass := b.tariffClass.toNat,
      pendingLimit := b.pendingLimit.toNat, balance := opening, held := 0, threshold := b.threshold.toNat,
      armed := decide (plan = .prepaid ∧ b.threshold.toNat < opening), lastCredit := none, nextSeq := 0,
      pendingList := [], lastHeard := none, bank0 := ⟨0, 0, 0, 0⟩, bank1 := ⟨0, 0, 0, 0⟩, mark := selector } := by
  simp only [createdSub, loadWatch, loadFields, planOfByte, stateOfByte, Bool.decide_and]
  rfl

/-- The record a SET leaves in another's place. -/
theorem replacedSub_eq (r : Subscriber) (b : LoadBody) : replacedSub r b =
    let plan : Plan := if b.plan.toNat = 0 then .prepaid else .postpaid
    { r with
      state := if b.state.toNat = 0 then .active else .stopped, airTag := b.airTag.toNat, homeWindow := b.home.toNat,
      pager := kindOfByte b.pager, twoWay := decide (b.twoWay.toNat = 1), maxParts := b.maxParts.toNat,
      repeatCount := b.repeatCount.toNat, plan := plan, tariffClass := b.tariffClass.toNat,
      pendingLimit := b.pendingLimit.toNat, threshold := b.threshold.toNat,
      armed := decide (plan = .prepaid ∧ b.threshold.toNat < r.balance),
      lastHeard := if r.airTag = b.airTag.toNat then r.lastHeard else none } := by
  simp only [replacedSub, loadWatch, loadFields, planOfByte, stateOfByte, Bool.decide_and]
  rfl

section Set

variable {s : State} {b : LoadBody} {index : Nat} (src : Nat)

theorem State.loadSet_vacant (hvacant : (s.sub index).state = .vacant) :
    s.loadSet src index b = (s.putSub index (createdSub s.queue.selector b)).loadAnswer src index b .done .none 0 ∧
      s.setReads index b = [.period] := ⟨if_pos hvacant, if_pos hvacant⟩

variable (hstate : (s.sub index).state ≠ .vacant)

include hstate

theorem State.loadSet_locked (hlocked : (s.sub index).pendingList ≠ [] ∧ changesLocked (s.sub index) b = true) :
    s.loadSet src index b = s.loadAnswer src index b .busy .pending 0 ∧ s.setReads index b = [] :=
  ⟨(if_neg hstate).trans (if_pos hlocked), (if_neg hstate).trans (if_pos hlocked)⟩

variable (hunlocked : ¬ ((s.sub index).pendingList ≠ [] ∧ changesLocked (s.sub index) b = true))

include hunlocked

theorem State.loadSet_lowers (hlowers : s.lowersBelowSends (s.sub index) b = true) :
    s.loadSet src index b = s.loadAnswer src index b .busy .sends 0 ∧
      s.setReads index b = ((s.sub index).pendingList.take 16).map StorePlace.message :=
  ⟨(if_neg hstate).trans ((if_neg hunlocked).trans (if_pos hlowers)),
    (if_neg hstate).trans ((if_neg hunlocked).trans (if_pos hlowers))⟩

variable (hlowers : s.lowersBelowSends (s.sub index) b = false)

include hlowers

/-- What a SET reads that passes the lock and the repeat count. -/
theorem State.setReads_passed : s.setReads index b =
    (if (s.sub index).plan = .postpaid ∧ planOfByte b.plan = .prepaid then [.period, .pointers] else []) ++
      (if (s.sub index).repeatCount ≠ b.repeatCount.toNat then (s.sub index).pendingList.map StorePlace.message
        else []) := by
  rw [ite_not]
  exact (if_neg hstate).trans ((if_neg hunlocked).trans (if_neg (Bool.eq_false_iff.1 hlowers)))

theorem State.loadSet_full (hleaves : (s.sub index).plan = .postpaid ∧ planOfByte b.plan = .prepaid)
    (hfull : 1024 < s.queue.records.length + (s.finalTotals index b.number.toNat (s.sub index)).length) :
    s.loadSet src index b = s.loadAnswer src index b .busy .queueFull 0 := by
  have hroom : s.roomToEmpty index b.number.toNat (s.sub index) = false := by
    rw [← Bool.not_eq_true, State.roomToEmpty_iff]
    exact Nat.not_le.2 hfull
  exact (if_neg hstate).trans ((if_neg hunlocked).trans ((if_neg (Bool.eq_false_iff.1 hlowers)).trans
    (if_pos ⟨hleaves.1, hleaves.2, hroom⟩)))

theorem State.loadSet_done (hfits : ¬ (((s.sub index).plan = .postpaid ∧ planOfByte b.plan = .prepaid) ∧
    1024 < s.queue.records.length + (s.finalTotals index b.number.toNat (s.sub index)).length)) :
    s.loadSet src index b = (s.replaceSub index (s.sub index) b).loadAnswer src index b .done .none 0 := by
  refine (if_neg hstate).trans ((if_neg hunlocked).trans ((if_neg (Bool.eq_false_iff.1 hlowers)).trans (if_neg ?_)))
  rintro ⟨hpost, hpre, hroom⟩
  refine hfits ⟨⟨hpost, hpre⟩, Nat.lt_of_not_le fun hle => ?_⟩
  rw [(s.roomToEmpty_iff index _ _).2 hle] at hroom
  cases hroom

end Set

/-- A SET carried out on a record in use: the FINAL totals, the record, the repeat count walk. -/
theorem State.replaceSub_eq (s : State) (index : Nat) (r : Subscriber) (b : LoadBody) : s.replaceSub index r b =
    let leaves := r.plan = .postpaid ∧ planOfByte b.plan = .prepaid
    let w := (if leaves then s.queueFinals index b.number.toNat r else s).putSub index
      { replacedSub r b with
        bank0 := if leaves then ⟨0, 0, 0, 0⟩ else r.bank0, bank1 := if leaves then ⟨0, 0, 0, 0⟩ else r.bank1 }
    if r.repeatCount = b.repeatCount.toNat ∨ r.twoWay = true then w
    else r.pendingList.foldl (State.blindIfRepeated b.repeatCount.toNat) w := by
  extract_lets leaves base w
  have hw : (if (decide (r.plan = .postpaid) && decide (planOfByte b.plan = .prepaid)) = true then
      s.queueFinals index b.number.toNat r else s).putSub index (replacedSub
        (if (decide (r.plan = .postpaid) && decide (planOfByte b.plan = .prepaid)) = true then zeroBanks r else r) b) =
      w := by
    have hcond : (decide (r.plan = .postpaid) && decide (planOfByte b.plan = .prepaid)) = true ↔ leaves := by
      rw [Bool.and_eq_true, decide_eq_true_iff, decide_eq_true_iff]
    by_cases hleaves : leaves
    · simp only [if_pos (hcond.2 hleaves), w, if_pos hleaves]
      rfl
    · simp only [if_neg (mt hcond.1 hleaves), w, if_neg hleaves]
      rfl
  unfold State.replaceSub State.repeatWalk
  dsimp only
  rw [hw]
  by_cases hcount : r.repeatCount = b.repeatCount.toNat
  · rw [if_pos hcount, if_pos (.inl hcount)]
  · rw [if_neg hcount]
    by_cases htwo : r.twoWay = true
    · rw [if_pos htwo, if_pos (.inr htwo)]
    · rw [if_neg htwo, if_neg (not_or.2 ⟨hcount, htwo⟩)]

/-- Settles O51: the tests in their own lemmas, and a SET by the first refusal that applies. -/
theorem loadSetCreatesOrReplaces : Obligations.LoadSetCreatesOrReplaces := by
  refine ⟨loadInRange_iff, fun r b => changesLocked_iff r, State.lowersBelowSends_iff,
    fun n u slot m => State.blindIfRepeated_row n, fun h e b s htaken hidle => ?_⟩
  intro v tell
  have hquiet {u : State} {ps : List Part} (hu : KeptBut ps v u) (hps : Part.claims ∉ ps := by decide) :
      u.testStart = u := State.testStart_idle u (by
        rw [show u.claims = s.claims from hu .claims hps]
        exact hidle)
  refine ⟨fun hnone => ?_, fun index hindex hsorted => ?_⟩
  · rw [exec_loadSet_taken e htaken, State.takeLoad_unowned (s := v) _ _ _ hnone]
    simp only [State.toSelf, decide_eq_true_eq]
    split
    · exact congrArg Host.Outcome.next (hquiet (ps := [.span, .stats]) (by simp))
    · exact congrArg Host.Outcome.next (hquiet (ps := []) (.refl _ _))
  · intro r plan state leaves noted same
    have hsame (code : LoadCode) (reason : BusyReason) :
        v.loadAnswer h.src.toNat index b code reason 0 = same code reason := rfl
    have hanswered (code : LoadCode) (reason : BusyReason) (l : List StorePlace) :
        ((same code reason).noteReads l).testStart = (same code reason).noteReads l :=
      hquiet (ps := [.span, .stats, .faults]) (by simp [same, tell])
    rw [exec_loadSet_taken e htaken]
    refine ⟨fun hrange => ?_, fun hrange hvacant => ?_, fun hrange hstate hpending hlocked => ?_,
      fun hrange hstate hunlocked => ⟨fun hlowers => ?_, fun hlowers => ⟨fun hleaves hfull => ?_, fun hfits => ?_⟩⟩⟩
    · rw [State.takeLoad_badField (s := v) h.src.toNat (s.toSelf h) hindex hrange, hsame, hanswered]
    all_goals rw [State.takeLoad_set (s := v) h.src.toNat (s.toSelf h) hindex hrange]
    · obtain ⟨hset, hreads⟩ := State.loadSet_vacant (s := v) (b := b) h.src.toNat hvacant
      have hcreated : (v.putSub index (createdSub v.queue.selector b)).sub index = createdSub v.queue.selector b :=
        State.sub_putSub_same _ _ _ hsorted
      have hanswer : v.loadSet h.src.toNat index b =
          tell (v.putSub index (createdSub v.queue.selector b)) .done .none 0 state := by
        rw [hset, State.loadAnswer, hcreated]
        rfl
      rw [hanswer, hreads, createdSub_eq, hquiet (ps := [.span, .stats, .faults, .subs, .parity]) (by simp [tell])]
      rfl
    · obtain ⟨hset, hreads⟩ := State.loadSet_locked (s := v) h.src.toNat hstate ⟨hpending, hlocked⟩
      rw [hset, hreads, hsame, hanswered]
    · obtain ⟨hset, hreads⟩ := State.loadSet_lowers (s := v) h.src.toNat hstate hunlocked hlowers
      rw [hset, hreads, hsame, hanswered]
      rfl
    all_goals rw [State.setReads_passed (s := v) hstate hunlocked hlowers]
    · rw [State.loadSet_full (s := v) h.src.toNat hstate hunlocked hlowers hleaves hfull, hsame, hanswered]
      rfl
    · intro emptied w walked
      obtain ⟨hrecords, hsweep⟩ := v.queueFinals_spec index b.number.toNat r
      have hwalked : v.replaceSub index r b = walked := by
        rw [State.replaceSub_eq, replacedSub_eq]
        rfl
      rw [State.loadSet_done (s := v) h.src.toNat hstate hunlocked hlowers hfits]
      refine ⟨?_, hrecords, hsweep, ((keptBut_atFrame h e).mono (by simp)).trans
        (by simp : KeptBut [.now, .faults, .stats, .span, .queue, .parity] v (v.queueFinals index b.number.toNat r))⟩
      rw [show v.replaceSub index (v.sub index) b = walked from hwalked]
      rfl

/-! ### The VACATE and the FINAL totals (R35, R36) -/

theorem bankUsed_iff (x : Bank) : bankUsed x = true ↔
    ¬ (x.messages = 0 ∧ x.characters = 0 ∧ x.sends = 0 ∧ x.charge = 0) := by
  rw [bankUsed, decide_eq_true_iff]
  omega

theorem State.closingFinal_iff (s : State) (index : Nat) (r : Subscriber) : s.closingFinal index r = true ↔
    bankUsed (bankOf r (otherBank s.queue.selector)) = true ∨
      (r.mark ≠ s.queue.selector ∧ ∃ w, s.queue.sweep = some w ∧ w.next ≤ index) := by
  simp only [State.closingFinal, Bool.or_eq_true, Bool.and_eq_true, decide_eq_true_eq, Option.any_eq_true]

theorem exec_loadVacate_taken {h : Header} {b : LoadBody} {s : State} (e : Env)
    (htaken : s.takes h (.load 1 b) = true) :
    exec (.loadVacate h e b) s = .next ((s.atFrame h e).takeLoad h.src.toNat (s.toSelf h) 1 b).testStart :=
  congrArg Host.Outcome.next (s.hear_taken h e _ _ htaken)

theorem exec_loadOther_taken {h : Header} {op : Byte} {b : LoadBody} {s : State} (e : Env)
    (htaken : s.takes h (.load op b) = true) :
    exec (.loadOtherOperation h e op b) s =
      .next ((s.atFrame h e).takeLoad h.src.toNat (s.toSelf h) op b).testStart :=
  congrArg Host.Outcome.next (s.hear_taken h e _ _ htaken)

section Vacate

variable {s : State} {b : LoadBody} {index : Nat} (src : Nat)

theorem State.loadVacate_vacant (hvacant : (s.sub index).state = .vacant) :
    s.loadVacate src index b = s.loadAnswer src index b .done .none 0 := if_pos hvacant

variable (hstate : (s.sub index).state ≠ .vacant)

include hstate

theorem State.loadVacate_pending (hpending : (s.sub index).pendingList ≠ []) :
    s.loadVacate src index b = s.loadAnswer src index b .busy .pending 0 :=
  (if_neg hstate).trans (if_pos hpending)

variable (hempty : (s.sub index).pendingList = [])

include hempty

theorem State.loadVacate_prepaid (hplan : (s.sub index).plan = .prepaid) : s.loadVacate src index b =
    (s.putSub index Subscriber.vacant).loadAnswer src index b .done .none (s.sub index).balance := by
  refine (if_neg hstate).trans ((if_neg (Classical.not_not.2 hempty)).trans ?_)
  rw [hplan]

theorem State.loadVacate_full (hplan : (s.sub index).plan = .postpaid)
    (hfull : 1024 < s.queue.records.length + (s.finalTotals index b.number.toNat (s.sub index)).length) :
    s.loadVacate src index b = s.loadAnswer src index b .busy .queueFull 0 := by
  refine (if_neg hstate).trans ((if_neg (Classical.not_not.2 hempty)).trans ?_)
  rw [hplan]
  exact if_neg (mt (s.roomToEmpty_iff index _ _).1 (Nat.not_le.2 hfull))

theorem State.loadVacate_emptied (hplan : (s.sub index).plan = .postpaid)
    (hroom : s.queue.records.length + (s.finalTotals index b.number.toNat (s.sub index)).length ≤ 1024) :
    s.loadVacate src index b =
      ((s.queueFinals index b.number.toNat (s.sub index)).putSub index Subscriber.vacant).loadAnswer src index b
        .done .none 0 := by
  refine (if_neg hstate).trans ((if_neg (Classical.not_not.2 hempty)).trans ?_)
  rw [hplan]
  exact if_pos ((s.roomToEmpty_iff index _ _).2 hroom)

end Vacate

/-- The FINAL totals of a record, the closing bank's first (R36). -/
theorem State.mem_finalTotals (s : State) (index number : Nat) (r : Subscriber) (x : RecordBody) :
    x ∈ s.finalTotals index number r ↔
      (s.closingFinal index r = true ∧
        x = .periodTotal number s.periodField .closed true (bankOf r (otherBank s.queue.selector))) ∨
      (bankUsed (bankOf r s.queue.selector) = true ∧
        x = .periodTotal number s.periodField .opened true (bankOf r s.queue.selector)) := by
  unfold State.finalTotals
  dsimp only
  rw [List.mem_append]
  refine or_congr ?_ ?_
  · split <;> simp_all
  · split <;> simp_all

theorem State.nodup_finalTotals (s : State) (index number : Nat) (r : Subscriber) :
    (s.finalTotals index number r).Nodup := by
  unfold State.finalTotals
  dsimp only
  split <;> split <;> simp

/-- Settles O52: the FINAL totals in their own lemmas, and a VACATE by the record's state and plan. -/
theorem loadVacatesOrAnswersBadField : Obligations.LoadVacatesOrAnswersBadField := by
  refine ⟨fun s index number r => ?_, fun h e b s hidle => ?_⟩
  · intro closing current used period
    have hused (x : Bank) : bankUsed x = true ↔ used x := bankUsed_iff x
    refine ⟨?_, fun x => ?_, fun hclosing hcurrent => ?_, s.nodup_finalTotals index number r⟩
    · rw [State.closingFinal_iff, hused]
    · rw [State.mem_finalTotals, hused]
      rfl
    · unfold State.finalTotals
      dsimp only
      rw [if_pos hclosing, if_pos ((hused current).2 hcurrent)]
      rfl
  · intro v tell unowned
    have hquiet {u : State} {ps : List Part} (hu : KeptBut ps v u) (hps : Part.claims ∉ ps := by decide) :
        u.testStart = u := State.testStart_idle u (by
          rw [show u.claims = s.claims from hu .claims hps]
          exact hidle)
    have hunowned (op : Byte) (hnone : s.decode b.number.toNat = none) :
        (v.takeLoad h.src.toNat (s.toSelf h) op b).testStart = unowned := by
      rw [State.takeLoad_unowned (s := v) _ _ _ hnone]
      simp only [State.toSelf, decide_eq_true_eq, unowned]
      split
      · exact hquiet (ps := [.span, .stats]) (by simp)
      · exact hquiet (ps := []) (.refl _ _)
    have hanswered (code : LoadCode) (reason : BusyReason) (index : Nat) (l : List StorePlace) :
        ((v.loadAnswer h.src.toNat index b code reason 0).noteReads l).testStart =
          (tell v code reason (s.sub index).pendingList.length 0 (s.sub index).state).noteReads l :=
      hquiet (ps := [.span, .stats, .faults]) (by simp)
    refine ⟨fun htaken hnone => ?_, fun index htaken hindex hsorted => ?_, fun op htaken hnone => ?_,
      fun op index h0 h1 htaken hindex => ?_⟩
    · rw [exec_loadVacate_taken e htaken, hunowned 1 hnone]
    · intro r totals noted
      rw [exec_loadVacate_taken e htaken, State.takeLoad_vacate (s := v) h.src.toNat (s.toSelf h) hindex]
      have hvacated (u : State) (hu : tableSorted u.subs = true) :
          (u.putSub index Subscriber.vacant).sub index = Subscriber.vacant := State.sub_putSub_same _ _ _ hu
      refine ⟨fun hvacant => ?_, fun hstate hpending => ?_, fun hstate hempty hplan => ?_,
        fun hstate hempty hplan => ?_⟩
      · rw [State.loadVacate_vacant (s := v) h.src.toNat hvacant, hanswered]
        rw [show (s.sub index).state = .vacant from hvacant]
        rfl
      · rw [State.loadVacate_pending (s := v) h.src.toNat hstate hpending, hanswered]
        rfl
      · rw [State.loadVacate_prepaid (s := v) h.src.toNat hstate hempty hplan, State.loadAnswer, hvacated v hsorted,
          hquiet (ps := [.span, .stats, .faults, .subs, .parity]) (by simp)]
        rfl
      · refine ⟨fun hfull => ?_, fun hroom => ?_⟩
        · rw [State.loadVacate_full (s := v) h.src.toNat hstate hempty hplan hfull, hanswered]
          rw [show (s.sub index).pendingList = [] from hempty]
          rfl
        · rw [State.loadVacate_emptied (s := v) h.src.toNat hstate hempty hplan hroom]
          let u : State := v.queueFinals index b.number.toNat r
          let w : State := u.putSub index Subscriber.vacant
          let t : State := (w.loadAnswer h.src.toNat index b .done .none 0).noteReads
            (.subscriber index :: vacateReads (v.sub index))
          have hu : KeptBut [.queue, .faults, .stats, .parity] v u := by simp [u]
          have hsubs : tableSorted u.subs = true := by
            rw [hu .subs (by decide)]
            exact hsorted
          have ht : KeptBut [.span, .stats, .faults] w t := by simp [t]
          have hwv : KeptBut [.stats, .faults, .subs, .queue, .parity] v w := by simp [w, u]
          have htsub (k : Nat) : t.sub k = w.sub k := State.sub_congr (ht .subs (by decide)) k
          obtain ⟨hrecords, -⟩ := v.queueFinals_spec index b.number.toNat r
          refine ⟨t, congrArg Host.Outcome.next (hquiet (ps := [.span, .stats, .faults, .subs, .queue, .parity])
            ((hwv.mono (by simp)).trans (ht.mono (by simp)))), (htsub index).trans (hvacated u hsubs),
            fun k hk => ?_, ?_,
            ?_, ((keptBut_atFrame h e).mono (by simp)).trans ((hwv.mono (by simp)).trans (ht.mono (by simp)))⟩
          · rw [htsub, State.sub_putSub_other _ _ hk]
            exact State.sub_congr (hu .subs (by decide)) k
          · rw [ht .queue (by decide), State.putSub_queue]
            exact hrecords
          · rw [State.noteReads_span, State.loadAnswer, hvacated u hsubs]
            exact State.getLast_addNotice _ _ _
    · rw [exec_loadOther_taken e htaken, hunowned op hnone]
    · rw [exec_loadOther_taken e htaken, State.takeLoad_other (s := v) h.src.toNat (s.toSelf h) hindex h0 h1, hanswered]

end Sys2Proof.Machine
end

section
/-! The contention at the end of an idle gap and the layouts of the frames that the engine sends (R1, R2, R4, R15). -/

namespace Sys2Proof.Machine

/-! ### Numbers of a width in bytes -/

theorem length_bytesOf (n v : Nat) : (bytesOf n v).length = n := by
  induction n with
  | zero => rfl
  | succ n ih => rw [bytesOf, List.length_cons, ih]

/-- The number that bytes stand for, begun from a number read before them. -/
theorem foldl_bytesOf (n v acc : Nat) :
    (bytesOf n v).foldl (fun acc b => acc * 256 + b.toNat) acc = acc * 256 ^ n + v % 256 ^ n := by
  induction n generalizing acc with
  | zero => simp [bytesOf, Nat.mod_one]
  | succ n ih =>
    have hsplit : v % 256 ^ (n + 1) = v % 256 ^ n + 256 ^ n * (v / 256 ^ n % 256) := Nat.mod_pow_succ
    rw [bytesOf, List.foldl_cons, ih, hsplit, BitVec.toNat_ofNat, Nat.pow_succ 256, Nat.add_mul,
      Nat.mul_assoc, Nat.mul_comm 256, Nat.mul_comm (v / 256 ^ n % 2 ^ 8), Nat.add_assoc, Nat.add_comm (256 ^ n * _)]

theorem numOf_bytesOf (n v : Nat) : numOf (bytesOf n v) = v % 256 ^ n := by
  rw [numOf, foldl_bytesOf, Nat.zero_mul, Nat.zero_add]

/-- A number of one byte is that byte. -/
@[simp] theorem bytesOf_one (v : Nat) : bytesOf 1 v = [BitVec.ofNat 8 v] := by simp [bytesOf]

@[simp] theorem laidOut_nil : laidOut [] = [] := rfl

@[simp] theorem laidOut_cons (f : Nat × Nat) (fields : List (Nat × Nat)) :
    laidOut (f :: fields) = bytesOf f.1 f.2 ++ laidOut fields := rfl

/-! ### Codes of one byte: the place of the constructor in its list -/

theorem flagByte_eq (b : Bool) : flagByte b = BitVec.ofNat 8 (if b then 1 else 0) := by cases b <;> rfl

theorem kindByte_eq (k : Kind) : kindByte k = BitVec.ofNat 8 ([Kind.tone, .numeric, .text].idxOf k) := by
  cases k <;> rfl

theorem endingByte_eq (o : Ending) : endingByte o =
    BitVec.ofNat 8 ([Ending.delivered, .partly, .undelivered, .expired, .cancelled, .sentBlind].idxOf o) := by
  cases o <;> rfl

theorem answerByte_eq (c : AnswerCode) :
    answerByte c = BitVec.ofNat 8 ([AnswerCode.accepted, .hold, .refused].idxOf c) := by cases c <;> rfl

theorem reasonByte_eq (r : Reason) : reasonByte r =
    BitVec.ofNat 8 ([Reason.none, .vacant, .stopped, .noTariff, .listFull, .noCredit, .busy].idxOf r) := by
  cases r <;> rfl

theorem flagsByte_eq (f : Flags) : flagsByte f = BitVec.ofNat 8
    ((if f.degraded then 1 else 0) + 2 * (if f.clamped then 1 else 0) + 4 * (if f.truncated then 1 else 0)) := by
  obtain ⟨degraded, clamped, truncated⟩ := f
  cases degraded <;> cases clamped <;> cases truncated <;> rfl

theorem recallByte_eq (c : RecallCode) :
    recallByte c = BitVec.ofNat 8 ([RecallCode.cancelled, .noted, .tooLate, .notFound].idxOf c) := by cases c <;> rfl

theorem creditByte_eq (c : CreditCode) : creditByte c =
    BitVec.ofNat 8 ([CreditCode.applied, .capped, .notPrepaid, .vacant, .notOwned].idxOf c) := by cases c <;> rfl

theorem subStateByte_eq (x : SubState) :
    subStateByte x = BitVec.ofNat 8 ([SubState.vacant, .active, .stopped].idxOf x) := by cases x <;> rfl

theorem planByte_eq (p : Plan) : planByte p = BitVec.ofNat 8 (if p = .postpaid then 1 else 0) := by cases p <;> rfl

theorem priorityByte_eq (p : Priority) : priorityByte p = BitVec.ofNat 8 (if p = .urgent then 1 else 0) := by
  cases p <;> rfl

theorem queryKindByte_eq (k : QueryKind) :
    queryKindByte k = BitVec.ofNat 8 ([QueryKind.stats, .subscriber, .message, .clock].idxOf k) := by cases k <;> rfl

theorem queryCodeByte_eq (c : QueryContents) : queryCodeByte c = BitVec.ofNat 8 (if c = .notOwned then 1 else 0) := by
  by_cases h : c = .notOwned
  · subst h; rfl
  · rw [if_neg h]
    cases c with
    | notOwned => exact absurd rfl h
    | _ => rfl

/-! ### The bodies of the notices -/

theorem noticeBytes_answer (a : Answer) : noticeBytes (.answer a) =
    laidOut [(2, a.tag), (3, a.number), (1, [AnswerCode.accepted, .hold, .refused].idxOf a.code),
      (1, [Reason.none, .vacant, .stopped, .noTariff, .listFull, .noCredit, .busy].idxOf a.reason), (1, a.seq),
      (1, (if a.flags.degraded then 1 else 0) + 2 * (if a.flags.clamped then 1 else 0) +
        4 * (if a.flags.truncated then 1 else 0)), (1, [Kind.tone, .numeric, .text].idxOf a.kind),
      (1, a.parts), (2, a.kept), (3, a.hold), (1, if a.recorded then 1 else 0)] := by
  simp [noticeBytes, answerByte_eq, reasonByte_eq, flagsByte_eq, kindByte_eq, flagByte_eq]

theorem noticeBytes_recallAnswer (number seq : Nat) (code : RecallCode) (held : Byte) :
    noticeBytes (.recallAnswer number seq code held) =
      laidOut [(3, number), (1, seq), (1, [RecallCode.cancelled, .noted, .tooLate, .notFound].idxOf code),
        (1, held.toNat)] := by
  simp [noticeBytes, recallByte_eq]

theorem noticeBytes_creditAnswer (tag number : Nat) (x : CreditResult) (recorded : Bool) :
    noticeBytes (.creditAnswer tag number x recorded) =
      laidOut [(2, tag), (3, number),
        (1, [CreditCode.applied, .capped, .notPrepaid, .vacant, .notOwned].idxOf x.code), (3, x.applied), (3, x.excess),
        (3, x.balance), (3, x.held), (1, if recorded then 1 else 0)] := by
  simp [noticeBytes, creditByte_eq, flagByte_eq]

theorem noticeBytes_queryAnswer (tag : Nat) (k : QueryKind) (c : QueryContents) :
    noticeBytes (.queryAnswer tag k c) =
      laidOut [(2, tag), (1, [QueryKind.stats, .subscriber, .message, .clock].idxOf k),
        (1, if c = .notOwned then 1 else 0)] ++ contentsBytes c := by
  simp [noticeBytes, queryKindByte_eq, queryCodeByte_eq]

theorem length_contentsBytes_le (c : QueryContents) : (contentsBytes c).length ≤ 416 := by
  unfold contentsBytes
  split
  · exact Nat.zero_le _
  · exact List.length_take_le _ _

/-- The body of a QUERY ANSWER is at most 420 bytes (R184). -/
theorem length_noticeBytes_queryAnswer_le (tag : Nat) (k : QueryKind) (c : QueryContents) :
    (noticeBytes (.queryAnswer tag k c)).length ≤ 420 := by
  have hcontents := length_contentsBytes_le c
  simp only [noticeBytes, List.length_append, length_bytesOf, List.length_cons, List.length_nil]
  omega

/-! ### The bodies of the charge records -/

theorem recordBytes_usage (n : Nat) (u : Usage) : recordBytes ⟨n, .usage u⟩ =
    laidOut ([(3, n), (3, u.number), (1, u.seq), (4, u.accepted.toNat), (4, u.finished.toNat),
      (1, [Ending.delivered, .partly, .undelivered, .expired, .cancelled, .sentBlind].idxOf u.ending),
      (1, if u.priority = .urgent then 1 else 0), (1, u.parts), (1, u.held.toNat), (2, u.chars), (1, u.sends),
      (3, u.charge), (3, u.hold), (1, if u.plan = .postpaid then 1 else 0), (1, u.tariffClass)] ++
      (u.balance.map (fun b => (3, b))).toList) := by
  cases hbalance : u.balance <;>
    simp [recordBytes, hbalance, endingByte_eq, priorityByte_eq, planByte_eq]

theorem length_recordBytes_usage (n : Nat) (u : Usage) :
    (recordBytes ⟨n, .usage u⟩).length = if u.balance.isSome then 33 else 30 := by
  cases hbalance : u.balance <;> simp [recordBytes, hbalance, length_bytesOf]

theorem recordBytes_periodTotal (n number period : Nat) (role : Role) (final : Bool) (b : Bank) :
    recordBytes ⟨n, .periodTotal number period role final b⟩ =
      laidOut [(3, n), (3, number), (1, period), (1, [Role.closed, .opened].idxOf role), (1, if final then 1 else 0),
        (2, b.messages), (3, b.characters), (2, b.sends), (4, b.charge)] := by
  simp only [recordBytes, flagByte_eq, laidOut_cons, laidOut_nil, bytesOf_one, List.append_assoc, List.cons_append,
    List.nil_append, List.append_nil]
  cases role <;> rfl

/-! ### The frame a source gives -/

theorem State.ownFrame_head (s : State) (cls turn dst kind : Nat) (body : List Byte) :
    (s.ownFrame cls turn dst kind body).head =
      ⟨BitVec.ofNat 3 cls, BitVec.ofNat 4 turn, BitVec.ofNat 5 s.unit.setup.own, BitVec.ofNat 5 dst⟩ := rfl

/-- A frame of the engine's, of a class below 7, carries the engine's own number and is found good. -/
theorem State.ownFrame_sound {s : State} {cls : Nat} (turn dst kind : Nat) (body : List Byte)
    (hown : s.unit.setup.own ≤ 30) (hcls : cls < 7) :
    let f := s.ownFrame cls turn dst kind body
    f.head.src.toNat = s.unit.setup.own ∧ headMalformed f.head = false ∧
      (f.body.length ≤ 2048 → f.len.toNat = f.body.length ∧ frameShort f = false ∧ checkFails f = false) := by
  have hsrc : (BitVec.ofNat 5 s.unit.setup.own).toNat = s.unit.setup.own := by
    rw [BitVec.toNat_ofNat]
    omega
  refine ⟨hsrc, ?_, fun hlen => ?_⟩
  · have hclass : BitVec.ofNat 3 cls ≠ 7 := by
      intro h
      have h' := congrArg BitVec.toNat h
      rw [BitVec.toNat_ofNat] at h'
      simp at h'
      omega
    have hsource : BitVec.ofNat 5 s.unit.setup.own ≠ 31 := by
      intro h
      have h' := congrArg BitVec.toNat h
      rw [hsrc] at h'
      simp at h'
      omega
    rw [headMalformed, State.ownFrame_head, decide_eq_false hclass, decide_eq_false hsource, Bool.or_self]
  · have hcount : (BitVec.ofNat 16 body.length).toNat = body.length := by
      rw [BitVec.toNat_ofNat]
      have : body.length ≤ 2048 := hlen
      omega
    obtain ⟨-, hshort, hcheck, -⟩ := frameWith_sound
      ⟨BitVec.ofNat 3 cls, BitVec.ofNat 4 turn, BitVec.ofNat 5 s.unit.setup.own, BitVec.ofNat 5 dst⟩
      (BitVec.ofNat 7 kind) hlen
    exact ⟨hcount, hshort, hcheck⟩

theorem noticeClass_lt (n : Notice) : noticeClass n < 7 := by
  unfold noticeClass
  split <;> decide

theorem State.itemBytes_eq (s : State) (i : Item) : s.itemBytes i =
    ((s.msg i.slot).map (fun m => laidOut [(3, (s.sub m.subIndex).airTag), (1, m.seq), (1, i.cost),
      (2, i.zones.toNat), (1, i.parts.toNat)])).getD [] := by
  unfold State.itemBytes
  cases s.msg i.slot <;> simp

theorem State.claimBytes_eq (s : State) (w : WindowRec) (c : Composition) : s.claimBytes w c =
    laidOut [(2, w.air.lap), (1, w.air.window), (1, w.sent), (1, c.items.length)] ++
      c.items.flatMap (fun i => ((s.msg i.slot).map (fun m => laidOut [(3, (s.sub m.subIndex).airTag), (1, m.seq),
        (1, i.cost), (2, i.zones.toNat), (1, i.parts.toNat)])).getD []) := by
  simp only [State.claimBytes, ← State.itemBytes_eq]
  simp

theorem State.frameFor_notice {s : State} {f : WireFrame} (h : s.frameFor .notice = some f) :
    ∃ n rest, s.span.notices = n :: rest ∧
      f = s.ownFrame (noticeClass n) 0 n.dest (noticeCode n.body) (noticeBytes n.body) := by
  unfold State.frameFor at h
  cases hnotices : s.span.notices with
  | nil => simp [hnotices] at h
  | cons n rest => exact ⟨n, rest, rfl, by simpa [hnotices] using h.symm⟩

theorem State.frameFor_record {s : State} {f : WireFrame} (h : s.frameFor .record = some f) :
    ∃ r rest, s.queue.records = r :: rest ∧
      f = s.ownFrame 5 0 s.unit.setup.collector (recordCode r.body) (recordBytes r) := by
  unfold State.frameFor at h
  cases hrecords : s.queue.records with
  | nil => simp [hrecords] at h
  | cons r rest => exact ⟨r, rest, rfl, by simpa [hrecords] using h.symm⟩

theorem State.frameFor_claim {s : State} {a : Bool} {f : WireFrame} (h : s.frameFor (.claim a) = some f) :
    ∃ c w, s.claims.slot = .prepared c ∧ s.claims.openWin = some w ∧
      f = s.ownFrame 1 w.sent 31 8 (s.claimBytes w c) := by
  unfold State.frameFor at h
  dsimp only at h
  split at h
  · next c w hslot hwin => exact ⟨c, w, hslot, hwin, (Option.some.inj h).symm⟩
  · cases h

theorem State.frameFor_sound {s : State} {o : OnAir} {f : WireFrame} (h : s.frameFor o = some f)
    (hown : s.unit.setup.own ≤ 30) :
    f.head.src.toNat = s.unit.setup.own ∧ headMalformed f.head = false ∧
      (f.body.length ≤ 2048 → f.len.toNat = f.body.length ∧ frameShort f = false ∧ checkFails f = false) := by
  cases o with
  | notice =>
    obtain ⟨n, rest, -, rfl⟩ := State.frameFor_notice h
    exact State.ownFrame_sound _ _ _ _ hown (noticeClass_lt n)
  | record =>
    obtain ⟨r, rest, -, rfl⟩ := State.frameFor_record h
    exact State.ownFrame_sound _ _ _ _ hown (by decide)
  | claim a =>
    obtain ⟨c, w, -, -, rfl⟩ := State.frameFor_claim h
    exact State.ownFrame_sound _ _ _ _ hown (by decide)

/-- Only what a frame is laid out from is read for it. -/
theorem State.frameFor_noteReads (s : State) (l : List StorePlace) (o : OnAir) :
    (s.noteReads l).frameFor o = s.frameFor o := by
  have hitem : (s.noteReads l).itemBytes = s.itemBytes := by
    funext i
    simp [State.itemBytes]
  have hclaim : (s.noteReads l).claimBytes = s.claimBytes := by
    funext w c
    simp [State.claimBytes, hitem]
  have hframe : (s.noteReads l).ownFrame = s.ownFrame := by
    funext cls turn dst kind body
    simp [State.ownFrame]
  simp [State.frameFor, hclaim, hframe]

/-! ### The source chosen -/

/-- The prepared claim as a source, at the class of a CLAIM. -/
def State.claimSource (s : State) : Option (OnAir × Nat × Nat) :=
  match s.claims.slot, s.claims.openWin with
  | .prepared _, some w => some (.claim false, 1, w.sent)
  | _, _ => none

/-- The notice queue as a source, at the class of its head. -/
def State.noticeSource (s : State) : Option (OnAir × Nat × Nat) :=
  s.span.notices.head?.map fun n => (.notice, noticeClass n, 0)

/-- The record queue as a source, at the class of a charge record. -/
def State.recordSource (s : State) : Option (OnAir × Nat × Nat) :=
  if s.queue.send = some .ready then some (.record, 5, 0) else none

theorem State.sources_eq (s : State) :
    s.sources = s.claimSource.toList ++ s.noticeSource.toList ++ s.recordSource.toList := by
  have hclaim : s.claimSource.toList = match s.claims.slot, s.claims.openWin with
      | .prepared _, some w => [(.claim false, 1, w.sent)]
      | _, _ => [] := by
    unfold State.claimSource
    cases s.claims.slot <;> cases s.claims.openWin <;> rfl
  have hnotice : s.noticeSource.toList = match s.span.notices with
      | n :: _ => [(.notice, noticeClass n, 0)]
      | [] => [] := by
    unfold State.noticeSource
    cases s.span.notices <;> rfl
  have hrecord : s.recordSource.toList = if s.queue.send = some .ready then [(.record, 5, 0)] else [] := by
    unfold State.recordSource
    split <;> rfl
  rw [hclaim, hnotice, hrecord]
  rfl

/-- The choice of R15: a claim before the others, then the notice unless a record waits and the notice is a QUERY
ANSWER. -/
theorem State.offered_eq (s : State) : s.offered =
    s.claimSource.or (match s.noticeSource, s.recordSource with
      | some n, some r => if n.2.1 < 5 then some n else some r
      | some n, none => some n
      | none, r => r) := by
  have hrecord : s.recordSource = match s.queue.send with
      | some .ready => some (.record, 5, 0)
      | _ => none := by
    unfold State.recordSource
    rcases s.queue.send with _ | x
    · rfl
    · cases x <;> rfl
  have hmatch : s.offered = match s.claimSource, s.span.notices.head?, s.recordSource with
      | some c, _, _ => some c
      | none, some n, none => some (.notice, noticeClass n, 0)
      | none, some n, some r => if noticeClass n < 5 then some (.notice, noticeClass n, 0) else some r
      | none, none, r => r := by
    rw [hrecord]
    rfl
  rw [hmatch, State.noticeSource]
  cases s.claimSource <;> cases s.span.notices.head? <;> cases s.recordSource <;> rfl

theorem State.claimSource_class {s : State} {x : OnAir × Nat × Nat} (h : s.claimSource = some x) : x.2.1 = 1 := by
  unfold State.claimSource at h
  split at h
  · cases h; rfl
  · cases h

theorem State.noticeSource_class {s : State} {x : OnAir × Nat × Nat} (h : s.noticeSource = some x) :
    x.2.1 = 3 ∨ x.2.1 = 6 := by
  obtain ⟨n, -, rfl⟩ := Option.map_eq_some_iff.1 h
  show noticeClass n = 3 ∨ noticeClass n = 6
  unfold noticeClass
  split
  · exact .inr rfl
  · exact .inl rfl

theorem State.recordSource_class {s : State} {x : OnAir × Nat × Nat} (h : s.recordSource = some x) : x.2.1 = 5 := by
  unfold State.recordSource at h
  split at h
  · cases h; rfl
  · cases h

theorem State.offered_eq_none_iff (s : State) : s.offered = none ↔ s.sources = [] := by
  rw [s.offered_eq, s.sources_eq]
  rcases s.claimSource with _ | c <;> rcases s.noticeSource with _ | n <;> rcases s.recordSource with _ | r <;>
    simp
  split <;> simp

/-- The frame that contends is the one of lowest class of those that the sources offer (R15). -/
theorem State.offered_lowest {s : State} {x : OnAir × Nat × Nat} (h : s.offered = some x) :
    x ∈ s.sources ∧ ∀ y ∈ s.sources, y = x ∨ x.2.1 < y.2.1 := by
  rw [s.offered_eq] at h
  rw [s.sources_eq]
  cases hclaim : s.claimSource with
  | some c =>
    have hc := State.claimSource_class hclaim
    obtain rfl : c = x := by simpa [hclaim] using h
    refine ⟨by simp, fun y hy => ?_⟩
    simp only [List.mem_append, Option.mem_toList, Option.some.injEq] at hy
    obtain (rfl | hy) | hy := hy
    · exact .inl rfl
    · have hn := State.noticeSource_class hy
      omega
    · have hr := State.recordSource_class hy
      omega
  | none =>
    simp only [hclaim, Option.none_or] at h
    cases hnotice : s.noticeSource with
    | none =>
      simp only [hnotice] at h
      simp [h]
    | some n =>
      cases hrecord : s.recordSource with
      | none =>
        obtain rfl : n = x := by simpa [hnotice, hrecord] using h
        simp
      | some r =>
        have hn := State.noticeSource_class hnotice
        have hr := State.recordSource_class hrecord
        simp only [hnotice, hrecord] at h
        split at h
        all_goals
          cases h
          simp
          omega

/-! ### The end of an idle gap -/

theorem winsOver_iff (key : Nat) (rival : Option (BitVec 12)) :
    winsOver key rival = true ↔ ∀ r, rival = some r → key ≤ r.toNat := by
  cases rival <;> simp [winsOver]

/-- The engine in service once an idle gap has ended at a moment, its receiver begun (R13). -/
def State.gapEnded (s : State) (e : Env) : State :=
  { s with now := max s.now e.moment, span := { s.span with waitingGap := false } }

theorem State.gapEnd_eq {s : State} (e : Env) (rival : Option (BitVec 12)) (hs : s.serving = true) :
    s.gapEnd e rival =
      if s.span.onAir.isSome then s.gapEnded e
      else match s.offered with
        | some (o, cls, turn) =>
          if winsOver (keyOf cls turn s.unit.setup.own) rival then
            ((s.gapEnded e).noteReads (s.frameReads o)).putOnAir o
          else (s.gapEnded e).noteReads (s.frameReads o)
        | none => s.gapEnded e := by
  unfold State.gapEnd
  rw [if_pos hs]
  rfl

theorem State.putOnAir_eq (s : State) (o : OnAir) : s.putOnAir o =
    { s with
      span := { s.span with onAir := some o, frame := s.frameFor o },
      queue := if o = .record then { s.queue with send := some .onAir } else s.queue } := by
  cases o <;> rfl

theorem State.frameFor_gapEnded (s : State) (e : Env) (o : OnAir) : (s.gapEnded e).frameFor o = s.frameFor o := by
  cases o <;> rfl

/-- A contention won: what the frame is laid out from is noted, and the frame goes on the medium. -/
theorem State.gapEnd_won {s : State} {e : Env} {rival : Option (BitVec 12)} {o : OnAir} {cls turn : Nat}
    (hs : s.serving = true) (hair : s.span.onAir = none) (hx : s.offered = some (o, cls, turn))
    (hwins : ∀ r, rival = some r → keyOf cls turn s.unit.setup.own ≤ r.toNat) :
    let v := (s.gapEnded e).noteReads (s.frameReads o)
    s.gapEnd e rival = { v with
      span := { v.span with onAir := some o, frame := s.frameFor o },
      queue := if o = .record then { v.queue with send := some .onAir } else v.queue } := by
  rw [State.gapEnd_eq e rival hs, hair, hx]
  dsimp only [Option.isSome_none, Bool.false_eq_true, if_false]
  rw [if_neg Bool.false_ne_true, if_pos ((winsOver_iff _ _).2 hwins), State.putOnAir_eq, State.frameFor_noteReads,
    State.frameFor_gapEnded]

/-- A contention lost: what the frame is laid out from is noted all the same. -/
theorem State.gapEnd_lost {s : State} {e : Env} {r : BitVec 12} {o : OnAir} {cls turn : Nat}
    (hs : s.serving = true) (hair : s.span.onAir = none) (hx : s.offered = some (o, cls, turn))
    (hloses : r.toNat < keyOf cls turn s.unit.setup.own) :
    s.gapEnd e (some r) = (s.gapEnded e).noteReads (s.frameReads o) := by
  have hnot : ¬ winsOver (keyOf cls turn s.unit.setup.own) (some r) = true := fun h =>
    Nat.not_le.2 hloses ((winsOver_iff _ _).1 h r rfl)
  rw [State.gapEnd_eq e _ hs, hair, hx]
  dsimp only [Option.isSome_none, Bool.false_eq_true, if_false]
  rw [if_neg Bool.false_ne_true, if_neg hnot]

/-! ### The obligation -/

/-- Settles O14: the choice of the source is that of R15's order, and each layout is that of its kind's bytes. -/
theorem idleGapSendsLowestClass : Obligations.IdleGapSendsLowestClass := by
  unfold Obligations.IdleGapSendsLowestClass
  refine ⟨?_, ?_, fun n v => ⟨length_bytesOf n v, numOf_bytesOf n v⟩, ?_⟩
  · intro e rival s hservice hreset u
    have hs : s.serving = true := s.serving_iff.2 ⟨hservice, hreset⟩
    have hexec : exec (.idleGapEnd e rival) s = .next (s.gapEnd e rival) := rfl
    rw [hexec]
    refine ⟨fun hair => ?_, fun hair hsources => ?_, fun hair hsources => ?_⟩
    · rw [State.gapEnd_eq e rival hs, if_pos hair]
      rfl
    · rw [State.gapEnd_eq e rival hs, (s.offered_eq_none_iff).2 hsources, hair]
      rfl
    · obtain ⟨⟨o, cls, turn⟩, hx⟩ := Option.ne_none_iff_exists'.1 (mt s.offered_eq_none_iff.1 hsources)
      obtain ⟨hmem, hlowest⟩ := State.offered_lowest hx
      refine ⟨(o, cls, turn), hmem, hlowest, ?_⟩
      intro v
      have hv : v = (s.gapEnded e).noteReads (s.frameReads o) := by
        refine congrArg (State.noteReads u) ?_
        cases o with
        | notice | record => rfl
        | claim a =>
          unfold State.frameReads
          cases s.claims.slot <;> rfl
      clear_value v
      subst hv
      refine ⟨fun hwins => ?_, fun r hr hloses => ?_⟩
      · exact congrArg Host.Outcome.next (State.gapEnd_won hs hair hx hwins)
      · subst hr
        exact congrArg Host.Outcome.next (State.gapEnd_lost hs hair hx hloses)
  · intro s o f hf hown
    obtain ⟨hsrc, hhead, hgood⟩ := State.frameFor_sound hf hown
    refine ⟨hsrc, hhead, hgood, ?_, ?_, ?_⟩
    · rintro rfl
      obtain ⟨n, rest, hnotices, rfl⟩ := State.frameFor_notice hf
      refine ⟨n, rest, hnotices, rfl, rfl, ?_, ?_, rfl⟩
      · rw [State.ownFrame_head]
        unfold noticeClass
        cases n.body <;> rfl
      · show (BitVec.ofNat 7 (noticeCode n.body)).toNat = noticeCode n.body
        cases n.body <;> rfl
    · rintro rfl
      obtain ⟨r, rest, hrecords, rfl⟩ := State.frameFor_record hf
      refine ⟨r, rest, hrecords, rfl, rfl, rfl, ?_, rfl⟩
      show (BitVec.ofNat 7 (recordCode r.body)).toNat = recordCode r.body
      cases r.body <;> rfl
    · rintro a rfl
      obtain ⟨c, w, hslot, hwin, rfl⟩ := State.frameFor_claim hf
      exact ⟨c, w, hslot, hwin, rfl, rfl, rfl, rfl, s.claimBytes_eq w c⟩
  · intro kind ending flag
    refine ⟨fun a => ⟨rfl, noticeBytes_answer a⟩,
      fun number seq code held => ⟨rfl, noticeBytes_recallAnswer number seq code held⟩,
      fun tag number seq o parts aired held sends charge finished => ⟨rfl, ?_⟩,
      fun tag number code reason pending released state => ⟨rfl, ?_⟩,
      fun tag number x recorded => ⟨rfl, noticeBytes_creditAnswer tag number x recorded⟩,
      fun tag k c => ⟨rfl, noticeBytes_queryAnswer tag k c, length_noticeBytes_queryAnswer_le tag k c, rfl⟩,
      fun n u => ⟨rfl, recordBytes_usage n u, length_recordBytes_usage n u⟩,
      fun n number period role final b => ⟨rfl, recordBytes_periodTotal n number period role final b⟩,
      fun n period count => ⟨rfl, ?_⟩, fun n number balance threshold => ⟨rfl, ?_⟩⟩
    · simp [noticeBytes, endingByte_eq, ending]
    · simp [noticeBytes, subStateByte_eq]
    · simp [recordBytes]
    · simp [recordBytes]

end Sys2Proof.Machine
end
